-- ==== Sys2Proof/Word.lean ====
section
/-! DEFINITION. The words, byte arrays and named codes of the DS1820 decode core (spec/10_state.md, 20_memory.md,
30_encoding.md): plain data only; every computation on them stands in Sys2Proof/Machine/. -/

namespace Sys2Proof

/-- Eight bits, the unit of every transport transfer (R54). -/
abbrev Byte := BitVec 8

/-- Sixteen bits: the command word (R70), the raw temperature word (R51) and the fixed-point word `W` (R81). -/
abbrev Word16 := BitVec 16

/-- Thirty-two bits: a binary32 pattern (R9, R82). -/
abbrev Float32Bits := BitVec 32

/-- The eight bytes of a bus address in index order (R52). -/
structure Address where
  family  : Byte   -- ADDR[0]
  serial1 : Byte   -- ADDR[1]
  serial2 : Byte
  serial3 : Byte
  serial4 : Byte
  serial5 : Byte
  serial6 : Byte   -- ADDR[6]
  crc     : Byte   -- ADDR[7]
deriving DecidableEq, Repr, Inhabited

/-- The nine bytes of a scratchpad in offset order (R50). -/
structure Scratchpad where
  tempLow     : Byte   -- SP[0], raw temperature, low byte
  tempHigh    : Byte   -- SP[1], raw temperature, high byte
  tripHigh    : Byte   -- SP[2]
  tripLow     : Byte   -- SP[3]
  config      : Byte   -- SP[4], the resolution field in bits 6:5
  byte5       : Byte   -- SP[5], never read by the block
  countRemain : Byte   -- SP[6]
  countPerC   : Byte   -- SP[7]
  crc         : Byte   -- SP[8]
deriving DecidableEq, Repr, Inhabited

/-- The four values of the 2-bit `VARIANT` code (R74). `reserved` is 0b11, which no command writes (R31 (I-c)). -/
inductive Variant where
  | unsupported
  | modelS
  | modelB
  | reserved
deriving DecidableEq, Repr, Inhabited

/-- The eight values of the 4-bit `STATUS` code that are ever produced (R76). -/
inductive Status where
  | ok
  | notFound
  | integrityError
  | unsupportedDevice
  | notPresent
  | transportError
  | illegalCommand
  | illegalState
deriving DecidableEq, Repr, Inhabited

/-- How SETRES puts the resolution field into configuration byte 4: the parameter `CFG_MERGE` (R6, R132). -/
inductive CfgMerge where
  | replace
  | or
deriving DecidableEq, Repr, Inhabited

/-- Which device a transaction selects (R59). -/
inductive Sel where
  | skip
  | matchAddr (a : Address)
deriving DecidableEq, Repr, Inhabited

/-- What the transport answers to a `BusTxn` (R58). The nine bytes of `ok` are what it has to deliver; a transaction
takes the first `rlen` of them. -/
inductive TxnAnswer where
  | fail
  | ok (bytes : Scratchpad)
deriving DecidableEq, Repr, Inhabited

/-- The three byte-wide code spaces of spec/opcode_table.json beside the command word: family codes (format family8,
R75), configuration fields (cfg8, R80), bus command bytes (bus8, R79). -/
inductive CodeSpace where
  | family
  | config
  | bus
deriving DecidableEq, Repr, Inhabited

/-- One encoded row of the table: a command word at the command port, or a data code with the space it belongs to. -/
inductive PortWord where
  | command (w : Word16)
  | code (space : CodeSpace) (b : Byte)
deriving DecidableEq, Repr, Inhabited

end Sys2Proof
end

