-- ==== Sys2Proof/Syntax.lean ====
section
/-! DEFINITION. One constructor per row of spec/opcode_table.json: the nine command words (R71, R83), then the ten data codes the table
lists beside them (R75, R80, R79). -/

namespace Sys2Proof

inductive Instr where
  /-- `IDENTIFY FIRST`, 0x1001 (R110). -/
  | identifyFirst
  /-- `IDENTIFY NEXT`, 0x1000 (R110). -/
  | identifyNext
  /-- `ASSERT S`, 0x2001 (R116). -/
  | assertS
  /-- `ASSERT B`, 0x2002 (R116). -/
  | assertB
  /-- `ISPRESENT`, 0x3000 (R120). -/
  | isPresent
  /-- `SETRES #n`, 0x4000 | (n & 0xFF), n a signed integer (R72, R137). -/
  | setres (n : Int)
  /-- `CONVERT`, 0x5000 (R152). -/
  | convert
  /-- `READ`, 0x6000 (R182). -/
  | read
  /-- `READC`, 0x7000 (R188). -/
  | readc
  /-- Family code 0x10 at the dispatch multiplexer (R104). -/
  | family10
  /-- Family code 0x28 at the dispatch multiplexer (R104). -/
  | family28
  /-- Family code 0x22 at the dispatch multiplexer (R104). -/
  | family22
  /-- Configuration byte with field 0x00; `bit7` and `low` are the bits the code leaves open (R80). -/
  | cfgRes9 (bit7 : BitVec 1) (low : BitVec 5)
  /-- Configuration byte with field 0x20 (R80). -/
  | cfgRes10 (bit7 : BitVec 1) (low : BitVec 5)
  /-- Configuration byte with field 0x40 (R80). -/
  | cfgRes11 (bit7 : BitVec 1) (low : BitVec 5)
  /-- Configuration byte with field 0x60 (R80). -/
  | cfgRes12 (bit7 : BitVec 1) (low : BitVec 5)
  /-- Bus byte 0x44, start conversion (R79). -/
  | busConvert
  /-- Bus byte 0xBE, read scratchpad (R79). -/
  | busRead
  /-- Bus byte 0x4E, write scratchpad bytes 2 to 4 (R79). -/
  | busWrite
deriving DecidableEq, Repr

/-- One line of assembler source, read into its parts (R83). `identify none` is the pseudo-instruction without an
operand; `word` is `.word 0xNNNN`. -/
inductive AsmLine where
  | identify (first : Option Bool)
  | assertS
  | assertB
  | isPresent
  | setres (n : Int)
  | convert
  | read
  | readc
  | word (w : Word16)
deriving DecidableEq, Repr

end Sys2Proof
end

