-- ==== Sys2Proof/WellFormed.lean ====
section
/-! DEFINITION. Which instructions are well formed. One check: the request of `SETRES` is a signed byte (R72). -/

namespace Sys2Proof

/-- `SETRES #n` is encodable exactly for -128 <= n <= 127 (R72, R83); every other operand's type admits only encodable
values. -/
def Instr.wellFormed : Instr → Bool
  | .identifyFirst => true
  | .identifyNext => true
  | .assertS => true
  | .assertB => true
  | .isPresent => true
  | .setres n => decide (-128 ≤ n) && decide (n ≤ 127)
  | .convert => true
  | .read => true
  | .readc => true
  | .family10 => true
  | .family28 => true
  | .family22 => true
  | .cfgRes9 _ _ => true
  | .cfgRes10 _ _ => true
  | .cfgRes11 _ _ => true
  | .cfgRes12 _ _ => true
  | .busConvert => true
  | .busRead => true
  | .busWrite => true

/-- Whether the instruction is one of the nine command words, as opposed to a data code (opcode_table.json, format
cmd16). -/
def Instr.isCommand : Instr → Bool
  | .identifyFirst => true
  | .identifyNext => true
  | .assertS => true
  | .assertB => true
  | .isPresent => true
  | .setres _ => true
  | .convert => true
  | .read => true
  | .readc => true
  | .family10 => false
  | .family28 => false
  | .family22 => false
  | .cfgRes9 _ _ => false
  | .cfgRes10 _ _ => false
  | .cfgRes11 _ _ => false
  | .cfgRes12 _ _ => false
  | .busConvert => false
  | .busRead => false
  | .busWrite => false

end Sys2Proof
end

