-- ==== Sys2Proof/Decode.lean ====
section
/-! DEFINITION. The decoder, total on every word and rejecting by name (R70 to R73, R75, R79, R80), and the encoder (R83). -/

namespace Sys2Proof

/-- Why a word is no instruction. The first four are the grounds of R73; where several hold, one of them is named. -/
inductive Reject where
  /-- `OP` is 0x0 or 0x8 to 0xF. -/
  | badOp
  /-- `Z` is not 0. -/
  | reservedBits
  /-- A must-be-zero bit of `IMM8` is 1. -/
  | operandBits
  /-- `ASSERT` with `V` 0b00 or 0b11. -/
  | badVariant
  /-- A family code of the 253 that the table has no row for (R75). -/
  | unlistedFamily
  /-- A byte that is none of the three bus command bytes (R79). -/
  | unlistedBusByte
deriving DecidableEq, Repr

/-- What the decoder reads from a word. -/
inductive Decoded where
  | instr (i : Instr)
  | reject (r : Reject)
deriving DecidableEq, Repr

/-- The instruction of a decoding, if there is one. -/
def Decoded.toOption : Decoded → Option Instr
  | .instr i => some i
  | .reject _ => none

/-- `OP`, bits 15:12 (R70). -/
def opField (w : Word16) : BitVec 4 := w.extractLsb' 12 4

/-- `Z`, bits 11:8 (R70). -/
def zField (w : Word16) : BitVec 4 := w.extractLsb' 8 4

/-- `IMM8`, bits 7:0 (R70). -/
def immField (w : Word16) : Byte := w.extractLsb' 0 8

/-- `IMM8` must be 0x00 (R72, last row). -/
def decodeNoOperand (i : Instr) (imm : Byte) : Decoded :=
  if imm = 0x00#8 then .instr i else .reject .operandBits

/-- `F` is `IMM8[0]` and `IMM8[7:1]` must be 0 (R72). -/
def decodeIdentify (imm : Byte) : Decoded :=
  if imm.extractLsb' 1 7 ≠ 0#7 then .reject .operandBits
  else if imm.getLsbD 0 then .instr .identifyFirst
  else .instr .identifyNext

/-- `V` is `IMM8[1:0]`, 0b01 or 0b10, and `IMM8[7:2]` must be 0 (R72, R73). -/
def decodeAssert (imm : Byte) : Decoded :=
  if imm.extractLsb' 2 6 ≠ 0#6 then .reject .operandBits
  else if imm.extractLsb' 0 2 = 0b01#2 then .instr .assertS
  else if imm.extractLsb' 0 2 = 0b10#2 then .instr .assertB
  else .reject .badVariant

/-- The opcode map (R71) with the operand assembly of R72. -/
def decodeOp (op : BitVec 4) (imm : Byte) : Decoded :=
  match op.toNat with
  | 1 => decodeIdentify imm
  | 2 => decodeAssert imm
  | 3 => decodeNoOperand .isPresent imm
  | 4 => .instr (.setres imm.toInt)
  | 5 => decodeNoOperand .convert imm
  | 6 => decodeNoOperand .read imm
  | 7 => decodeNoOperand .readc imm
  | _ => .reject .badOp

/-- Decoding a command word (R70 to R73). -/
def decodeCommand (w : Word16) : Decoded :=
  if zField w ≠ 0#4 then .reject .reservedBits else decodeOp (opField w) (immField w)

/-- The family codes of R75. -/
def decodeFamily (b : Byte) : Decoded :=
  if b = 0x10#8 then .instr .family10
  else if b = 0x28#8 then .instr .family28
  else if b = 0x22#8 then .instr .family22
  else .reject .unlistedFamily

/-- The configuration byte by its field, bits 6:5; the other six bits are kept (R80). -/
def decodeConfig (b : Byte) : Decoded :=
  let bit7 := b.extractLsb' 7 1
  let low := b.extractLsb' 0 5
  match (b.extractLsb' 5 2).toNat with
  | 0 => .instr (.cfgRes9 bit7 low)
  | 1 => .instr (.cfgRes10 bit7 low)
  | 2 => .instr (.cfgRes11 bit7 low)
  | _ => .instr (.cfgRes12 bit7 low)

/-- The bus command bytes of R79. -/
def decodeBus (b : Byte) : Decoded :=
  if b = 0x44#8 then .instr .busConvert
  else if b = 0xBE#8 then .instr .busRead
  else if b = 0x4E#8 then .instr .busWrite
  else .reject .unlistedBusByte

/-- The decoder. The code spaces are kept apart: one byte can be a family code, a configuration byte and a bus byte. -/
def decode : PortWord → Decoded
  | .command w => decodeCommand w
  | .code .family b => decodeFamily b
  | .code .config b => decodeConfig b
  | .code .bus b => decodeBus b

/-- A configuration byte from bit 7, the field in bits 6:5 and bits 4:0 (R80). -/
def configByte (bit7 : BitVec 1) (field : BitVec 2) (low : BitVec 5) : Byte := bit7 ++ field ++ low

/-- The encoder, from the syntax table of R83 and the code tables of R75, R79 and R80. -/
def encode : Instr → PortWord
  | .identifyFirst => .command 0x1001#16
  | .identifyNext => .command 0x1000#16
  | .assertS => .command 0x2001#16
  | .assertB => .command 0x2002#16
  | .isPresent => .command 0x3000#16
  | .setres n => .command (0x40#8 ++ BitVec.ofInt 8 n)
  | .convert => .command 0x5000#16
  | .read => .command 0x6000#16
  | .readc => .command 0x7000#16
  | .family10 => .code .family 0x10#8
  | .family28 => .code .family 0x28#8
  | .family22 => .code .family 0x22#8
  | .cfgRes9 bit7 low => .code .config (configByte bit7 0b00#2 low)
  | .cfgRes10 bit7 low => .code .config (configByte bit7 0b01#2 low)
  | .cfgRes11 bit7 low => .code .config (configByte bit7 0b10#2 low)
  | .cfgRes12 bit7 low => .code .config (configByte bit7 0b11#2 low)
  | .busConvert => .code .bus 0x44#8
  | .busRead => .code .bus 0xBE#8
  | .busWrite => .code .bus 0x4E#8

/-- Which code space a byte-wide row of spec/opcode_table.json belongs to, when only its byte is given.
DESIGN CHOICE (log 7): the rows whose mask is all eight bits come before the configuration rows, whose mask is 0x60. -/
def tableSpace (b : Byte) : CodeSpace :=
  match decodeFamily b, decodeBus b with
  | .instr _, _ => .family
  | .reject _, .instr _ => .bus
  | .reject _, .reject _ => .config

/-- A table row's bits as the hardware receives them: up to 8 bits a data code, else a 16-bit command word. -/
def tablePort (nbits w : Nat) : PortWord :=
  if nbits ≤ 8 then .code (tableSpace (BitVec.ofNat 8 w)) (BitVec.ofNat 8 w)
  else .command (BitVec.ofNat 16 w)

/-- The instruction the decoder reads from a table row's bits. -/
def decodeTableWord (nbits w : Nat) : Option Instr := (decode (tablePort nbits w)).toOption

end Sys2Proof
end

