-- ==== Sys2Proof/Config.lean ====
section
/-! DEFINITION. What an implementation fixes and what the spec leaves free (R6, 92_eei_decisions.md, 93_implementation_defined.md Part 1).
The four opaque constants have no body: nothing can be proved about their values. -/

namespace Sys2Proof.Config

/-- `CRC8_FN`, the transport's CRC-8 over a buffer: an OPEN parameter of the spec (R6, D8). -/
opaque crc8 : List Byte → Byte

/-- `CFG_MERGE`, which is `REPLACE` for this hardware (R6, R132, D16). -/
def cfgMerge : CfgMerge := .replace

/-- The transport's answer to a search, a free draw: the argument counts the answers drawn so far (R56, R57, D6). -/
opaque freeSearch : Nat → Option Address

/-- The transport's answer to a bus transaction, a free draw: the argument counts the answers drawn so far (R56, R58, D6). -/
opaque freeTxn : Nat → TxnAnswer

/-- The bytes that the bus code 0x4E takes from `SP` where `SP` holds no value, a free value: the argument counts the
answers drawn so far (R34, log 20). -/
opaque freeScratchpad : Nat → Scratchpad

end Sys2Proof.Config
end

