-- ==== Sys2Proof/Machine/State.lean ====
section
/-! DEFINITION. The state of the DS1820 decode core (spec/10_state.md) as plain data, the reasons a step can stop, and the state
after reset (R37). -/

namespace Sys2Proof.Machine

/-- The registers a host can name (R32). `sp` is no output: reading it always stops (R32, R34). -/
inductive OutReg where
  | present
  | variant
  | addrValid
  | addr
  | resValid
  | res
  | tempValid
  | temp
  | result
  | status
  | sp
deriving DecidableEq, Repr

/-- Why the machine stops with a fault. -/
inductive Fault where
  /-- The host reads a register that holds no value (`State.look`). R34: "A model faults on it and never supplies a value";
  D29 and 93_implementation_defined.md Part 1 give the same treatment. No instruction raises it. Safe (D29: toward
  unprovable). -/
  | noValue (r : OutReg)
  /-- The decoder is run with a variant that is neither ModelS nor ModelB (`State.reading`, R167, D30). Safe: unreachable
  on the hardware. -/
  | undecodableVariant (v : Variant)
deriving DecidableEq, Repr

/-- Why the model refuses a step. -/
inductive Refusal where
  /-- An instruction without a meaning yet (raised by no arm of this model). Safe: the run stops. -/
  | notModelled (mnemonic : String)
  /-- The host names a handle that was never constructed (`State.select`, log 9). Safe: the host has no such handle. -/
  | noSuchHandle (k : Nat)
  /-- The code port is given a bus byte that the block never issues (`State.rejectWord`, R79, log 21). Safe: the
  hardware never does so. -/
  | busByteNeverIssued (b : Byte)
deriving DecidableEq, Repr

/-- The registers of one block instance (R22). `ADDR_VALID`, `RES_VALID` and `TEMP_VALID` are stored with the register
they are about, which holds a value exactly when its bit is 1 (R34, log 1). -/
structure Block where
  present : Bool
  variant : Variant
  addr    : Option Address
  sp      : Option Scratchpad
  res     : Option (BitVec 4)
  temp    : Option Float32Bits
  result  : Float32Bits
  status  : Status
deriving DecidableEq, Repr

/-- One request to the transport and its answer (R56). For a transaction, no answer bytes means `FAIL`. -/
inductive Exchange where
  | search (first : Bool) (answer : Option Address)
  | txn (sel : Sel) (cmd8 : Byte) (wdata : List Byte) (rlen : Nat) (answer : Option (List Byte))
deriving DecidableEq, Repr

/-- One action of the host (R32, R220, R212; log 8, log 9, log 10). -/
inductive HostInput where
  /-- A word presented to the selected handle: a command word at `CMD`, or a data code at the code port (log 6). -/
  | word (p : PortWord)
  /-- The reset input `RST` of the selected handle (R220). -/
  | rst
  /-- Construction of one more sensor handle (R220). -/
  | construct
  /-- The next commands go to handle number `k`. -/
  | select (k : Nat)
  /-- The host reads a register of the selected handle. -/
  | look (r : OutReg)
deriving DecidableEq, Repr

/-- What a combinational unit answered to the last data code presented to it at the code port (log 6). -/
inductive UnitOut where
  | idle
  /-- The dispatch multiplexer's output (R104). -/
  | variant (v : Variant)
  /-- The active resolution and the mask ModelB decode applies to `raw` (R80). -/
  | resolution (bits : BitVec 4) (mask : Word16)
deriving DecidableEq, Repr

structure State where
  /-- The selected handle's registers. -/
  blk : Block
  /-- The handles numbered below the selected one, in order (R212, log 9). -/
  before : List Block
  /-- The handles numbered above the selected one, in order. -/
  after : List Block
  /-- The host's actions to come (log 8). -/
  inputs : List HostInput
  /-- The transport's answers to the next searches (R56, log 2). -/
  searchAnswers : List (Option Address)
  /-- The transport's answers to the next bus transactions (R56, log 2). -/
  txnAnswers : List TxnAnswer
  /-- How many answers the transport has given (log 3). -/
  draws : Nat
  /-- The transaction list of the last command, in order (R20, R56). -/
  txns : List Exchange
  /-- What the last data code presented alone was answered (log 6). -/
  unitOut : UnitOut
  /-- What the host read last (log 10). -/
  seen : Option (OutReg × BitVec 64)
deriving DecidableEq, Repr

/-- The reset value of every register of one block instance (R37). -/
def Block.reset : Block :=
  { present := false
    variant := .unsupported
    addr := none
    sp := none
    res := none
    temp := none
    result := 0#32
    status := .ok }

/-- One handle, just reset, with no input pending and no transaction issued (R37, R220, R221). -/
def State.reset : State :=
  { blk := Block.reset
    before := []
    after := []
    inputs := []
    searchAnswers := []
    txnAnswers := []
    draws := 0
    txns := []
    unitOut := .idle
    seen := none }

end Sys2Proof.Machine
end

