-- ==== Sys2Proof/Machine/Operands.lean ====
section
/-! DEFINITION. The pure functions of the block: byte orders and codes (20_memory.md, 30_encoding.md), the dispatch multiplexer
(40_identification.md), the clamp and the configuration byte (41_resolution.md), the temperature decoder (43_decode.md). -/

namespace Sys2Proof

/-- `ADDR[0..6]`, the bytes the address CRC covers (R109). -/
def Address.crcBytes (a : Address) : List Byte :=
  [a.family, a.serial1, a.serial2, a.serial3, a.serial4, a.serial5, a.serial6]

/-- The eight bytes in index order (R52). -/
def Address.bytes (a : Address) : List Byte := a.crcBytes ++ [a.crc]

/-- The 64-bit `ADDR` register: byte i in bits 8i+7:8i (R52). -/
def Address.toWord (a : Address) : BitVec 64 :=
  a.crc ++ a.serial6 ++ a.serial5 ++ a.serial4 ++ a.serial3 ++ a.serial2 ++ a.serial1 ++ a.family

/-- `SP[0..7]`, the bytes the scratchpad CRC covers (R187). -/
def Scratchpad.crcBytes (sp : Scratchpad) : List Byte :=
  [sp.tempLow, sp.tempHigh, sp.tripHigh, sp.tripLow, sp.config, sp.byte5, sp.countRemain, sp.countPerC]

/-- The nine bytes in offset order (R50). -/
def Scratchpad.bytes (sp : Scratchpad) : List Byte := sp.crcBytes ++ [sp.crc]

/-- The 72-bit `SP` register: byte i in bits 8i+7:8i (R50). -/
def Scratchpad.toWord (sp : Scratchpad) : BitVec 72 :=
  sp.crc ++ sp.countPerC ++ sp.countRemain ++ sp.byte5 ++ sp.config ++ sp.tripLow ++ sp.tripHigh ++ sp.tempHigh
    ++ sp.tempLow

/-- The 2-bit `VARIANT` code (R74). -/
def Variant.code : Variant → BitVec 2
  | .unsupported => 0b00#2
  | .modelS => 0b01#2
  | .modelB => 0b10#2
  | .reserved => 0b11#2

/-- The 4-bit `STATUS` code (R76). -/
def Status.code : Status → BitVec 4
  | .ok => 0x0#4
  | .notFound => 0x1#4
  | .integrityError => 0x2#4
  | .unsupportedDevice => 0x3#4
  | .notPresent => 0x4#4
  | .transportError => 0x5#4
  | .illegalCommand => 0x6#4
  | .illegalState => 0x7#4

end Sys2Proof

namespace Sys2Proof.Machine

/-- `Dispatch(fc)`, the device-identity dispatch multiplexer (R104). -/
def dispatch (fc : Byte) : Variant :=
  if fc = 0x10#8 then .modelS
  else if fc = 0x28#8 then .modelB
  else if fc = 0x22#8 then .modelB
  else .unsupported

/-- `AddrOK(a)` (R109). -/
def addrOK (a : Address) : Bool := Config.crc8 a.crcBytes == a.crc

/-- `SpOK(SP)` (R187). -/
def spOK (sp : Scratchpad) : Bool := Config.crc8 sp.crcBytes == sp.crc

/-- `Clamp(N, v)` as an integer (R130). -/
def clampInt (n : Int) (v : Variant) : Int :=
  if v = .modelS then 9 else min 12 (max 9 n)

/-- `Clamp(N, v)` in the 4-bit form `RES` holds (R130, R27). -/
def clamp (n : Int) (v : Variant) : BitVec 4 := BitVec.ofInt 4 (clampInt n v)

/-- `trunc_8((r - 9) << 5)`, the field in its place (R132). -/
def resField (r : BitVec 4) : Byte := (r - 9#4).setWidth 8 <<< 5

/-- `CfgCompute(cfg, r)` under either value of `CFG_MERGE` (R132). -/
def cfgCompute (m : CfgMerge) (cfg : Byte) (r : BitVec 4) : Byte :=
  match m with
  | .replace => (cfg &&& 0x9F#8) ||| resField r
  | .or => cfg ||| resField r

/-- `CFGRES`, bits 6:5 of configuration byte 4 (R80). -/
def cfgRes (cfg : Byte) : BitVec 2 := cfg.extractLsb' 5 2

/-- The active resolution, `9 + CFGRES` (R80). -/
def activeResolution (cfg : Byte) : BitVec 4 := 9#4 + (cfgRes cfg).setWidth 4

/-- The mask ModelB decode applies to `raw`, by `SP[4] & 0x60` (R80, R165). -/
def activeMask (cfg : Byte) : Word16 :=
  if cfg &&& 0x60#8 = 0x00#8 then 0xFFF8#16
  else if cfg &&& 0x60#8 = 0x20#8 then 0xFFFC#16
  else if cfg &&& 0x60#8 = 0x40#8 then 0xFFFE#16
  else 0xFFFF#16

/-- Stage 1, composition: `raw0 = SP[0] | (SP[1] << 8)`, little-endian (R51, R160). -/
def raw0 (sp : Scratchpad) : Word16 := sp.tempLow.setWidth 16 ||| (sp.tempHigh.setWidth 16 <<< 8)

/-- Stage 2, ModelS shift (R162). -/
def rawS1 (sp : Scratchpad) : Word16 := raw0 sp <<< 3

/-- Stage 2, ModelS count-remain correction, modulo 2^16 (R163, R78). -/
def rawS2 (sp : Scratchpad) : Word16 :=
  if sp.countPerC = 0x10#8 then (rawS1 sp &&& 0xFFF0#16) + 12#16 - sp.countRemain.setWidth 16 else rawS1 sp

/-- Stage 2, ModelB masking by the active resolution of byte 4 (R165). -/
def rawB (sp : Scratchpad) : Word16 := raw0 sp &&& activeMask sp.config

/-- Stage 2, by variant; no value for a variant that is neither ModelS nor ModelB (R161, R167). -/
def refine (sp : Scratchpad) : Variant → Option Word16
  | .modelS => some (rawS2 sp)
  | .modelB => some (rawB sp)
  | .unsupported => none
  | .reserved => none

/-- Stage 3, uniform scaling (R168). -/
def scale (raw : Word16) : Word16 := raw <<< 4

/-- The magnitude `m` of a fixed-point word (R170, R172). -/
def magnitude (w : Word16) : Word16 := if w.getLsbD 15 then ~~~w + 1#16 else w

/-- Stage 4, `ToFloat(W)` as its binary32 pattern (R170, R172). -/
def toFloat (w : Word16) : Float32Bits :=
  let m := (magnitude w).toNat
  let e := m.log2
  if m = 0 then 0#32
  else BitVec.ofBool (w.getLsbD 15) ++ BitVec.ofNat 8 (e + 119) ++ BitVec.ofNat 23 (m <<< (23 - e))

/-- `Decode(SP, v)` (R173). -/
def decodeTemp (sp : Scratchpad) (v : Variant) : Option Float32Bits :=
  (refine sp v).map fun raw => toFloat (scale raw)

end Sys2Proof.Machine
end

