-- ==== Sys2Proof/Machine/Flags.lean ====
section
/-! DEFINITION. The status bits of a block: the block has no condition codes and no arithmetic flags (R36), only `PRESENT`, the three
valid bits and `STATUS`; and what each output register shows the host (R32, R34). -/

namespace Sys2Proof.Machine

/-- `ADDR_VALID` (R22, R25). -/
def Block.addrValid (b : Block) : Bool := b.addr.isSome

/-- `RES_VALID` (R22, R27). -/
def Block.resValid (b : Block) : Bool := b.res.isSome

/-- `TEMP_VALID` (R22, R28). -/
def Block.tempValid (b : Block) : Bool := b.temp.isSome

/-- The value an output register drives, zero-extended to 64 bits; none where it holds no value, and none for `SP`,
which is no output (R32, R34). -/
def Block.output (b : Block) : OutReg → Option (BitVec 64)
  | .present => some ((BitVec.ofBool b.present).setWidth 64)
  | .variant => some (b.variant.code.setWidth 64)
  | .addrValid => some ((BitVec.ofBool b.addrValid).setWidth 64)
  | .addr => b.addr.map Address.toWord
  | .resValid => some ((BitVec.ofBool b.resValid).setWidth 64)
  | .res => b.res.map fun r => r.setWidth 64
  | .tempValid => some ((BitVec.ofBool b.tempValid).setWidth 64)
  | .temp => b.temp.map fun f => f.setWidth 64
  | .result => some (b.result.setWidth 64)
  | .status => some (b.status.code.setWidth 64)
  | .sp => none

end Sys2Proof.Machine
end

