-- ==== Sys2Proof/Machine/Ops.lean ====
section
/-! DEFINITION. The shared operations: writing registers, the transport requests (20_memory.md), ending a command with a status (R8, R200),
reset and the other host actions (70_reset_and_hazards.md), the illegal word (R204). The block takes no exceptions and
returns from none (R200, R201): `finish` is its one way to report an outcome. -/

namespace Sys2Proof.Machine

/-! ### Register writes -/

/-- `STATUS <- st` (R30). -/
def Block.setStatus (b : Block) (st : Status) : Block := { b with status := st }

/-- `VARIANT <- v`. -/
def Block.setVariant (b : Block) (v : Variant) : Block := { b with variant := v }

/-- The identity writes of a successful IDENTIFY: `ADDR`, `ADDR_VALID`, `VARIANT`, `PRESENT` (R110). -/
def Block.identifiedAs (b : Block) (a : Address) (v : Variant) : Block :=
  { b with addr := some a, variant := v, present := true }

/-- The identity writes of ASSERT: `VARIANT` and `PRESENT` (R116). -/
def Block.assertedAs (b : Block) (v : Variant) : Block := { b with variant := v, present := true }

/-- `SP[i] <- ...` for i = 0 to 8. -/
def Block.setSp (b : Block) (sp : Scratchpad) : Block := { b with sp := some sp }

/-- `RES <- r; RES_VALID <- 1` (R137). -/
def Block.setRes (b : Block) (r : BitVec 4) : Block := { b with res := some r }

/-- `RESULT <- x` (R29). -/
def Block.setResult (b : Block) (x : Float32Bits) : Block := { b with result := x }

/-- `TEMP <- f; TEMP_VALID <- 1` (R28). -/
def Block.setTemp (b : Block) (f : Float32Bits) : Block := { b with temp := some f }

/-- The selected handle's registers become `b`. -/
def State.setBlk (s : State) (b : Block) : State := { s with blk := b }

/-- `finish(st)`: write `STATUS` and end the command (R8, R30). -/
def State.finish (s : State) (st : Status) : State := s.setBlk (s.blk.setStatus st)

/-- The start of a command: its transaction list is empty (R20, R56; log 11). -/
def State.begin (s : State) : State := { s with txns := [] }

/-! ### Transport requests -/

/-- "start conversion" (R79). -/
def busStartConversion : Byte := 0x44#8

/-- "read scratchpad" (R79). -/
def busReadScratchpad : Byte := 0xBE#8

/-- "write scratchpad bytes 2-4" (R79). -/
def busWriteScratchpad : Byte := 0x4E#8

/-- `sel`: `MATCH(ADDR)` when `ADDR_VALID` = 1, else `SKIP` (R59). -/
def Block.sel (b : Block) : Sel :=
  match b.addr with
  | some a => .matchAddr a
  | none => .skip

/-- What the transport answers to the next search: the first answer in hand, else a free draw (R56, R57; log 2). -/
def State.searchAnswer (s : State) : Option Address :=
  match s.searchAnswers with
  | a :: _ => a
  | [] => Config.freeSearch s.draws

/-- `BusSearch(first)`: the answer is drawn and the exchange recorded (R56, R57). -/
def State.busSearch (s : State) (first : Bool) : State :=
  { s with
    searchAnswers := s.searchAnswers.tail
    draws := s.draws + 1
    txns := s.txns ++ [.search first s.searchAnswer] }

/-- What the transport answers to the next bus transaction (R56, R58; log 2). -/
def State.txnAnswer (s : State) : TxnAnswer :=
  match s.txnAnswers with
  | a :: _ => a
  | [] => Config.freeTxn s.draws

/-- The bytes a transaction that reads `rlen` bytes delivers; none for `FAIL` (R58). -/
def TxnAnswer.rdata (rlen : Nat) : TxnAnswer → Option (List Byte)
  | .fail => none
  | .ok bytes => some (bytes.bytes.take rlen)

/-- `BusTxn(sel, cmd8, wdata, rlen)` with the handle's own `sel`: the answer is drawn and the exchange recorded (R56, R58,
R59). -/
def State.busTxn (s : State) (cmd8 : Byte) (wdata : List Byte) (rlen : Nat) : State :=
  { s with
    txnAnswers := s.txnAnswers.tail
    draws := s.draws + 1
    txns := s.txns ++ [.txn s.blk.sel cmd8 wdata rlen (TxnAnswer.rdata rlen s.txnAnswer)] }

/-- The start-conversion transaction (R55, R152). -/
def State.startConversion (s : State) : State := s.busTxn busStartConversion [] 0

/-- The read-scratchpad transaction, `MemRead(SP, 9)` (R8, R55, R181). -/
def State.readScratchpad (s : State) : State := s.busTxn busReadScratchpad [] 9

/-- The write-scratchpad transaction: bytes 2, 3 and 4 of `sp` in that order, `MemWrite(SP+2, 3, v)` (R8, R55, R133). -/
def State.writeScratchpad (s : State) (sp : Scratchpad) : State :=
  s.busTxn busWriteScratchpad [sp.tripHigh, sp.tripLow, sp.config] 0

/-- The bytes that the write code takes from `SP`: its value, or a free value where it holds none (R34; log 20). -/
def State.spOrFree (s : State) : Scratchpad :=
  match s.blk.sp with
  | some sp => sp
  | none => Config.freeScratchpad s.draws

/-! ### Outcomes of the read commands -/

/-- A read that failed: `RESULT <- +0.0`, `TEMP` kept (R29, R180, R181). -/
def State.readFailed (s : State) (st : Status) : State := (s.setBlk (s.blk.setResult 0#32)).finish st

/-- A read that succeeded: `RESULT <- f; TEMP <- f; TEMP_VALID <- 1` (R182). -/
def State.readDone (s : State) (f : Float32Bits) : State :=
  (s.setBlk ((s.blk.setResult f).setTemp f)).finish .ok

/-- Decode the fetched bytes and end the read; a variant that cannot be decoded faults (R182, R167). -/
def State.reading (s : State) (sp : Scratchpad) : Host.Outcome State Fault Refusal :=
  match decodeTemp sp s.blk.variant with
  | some f => .next (s.readDone f)
  | none => .fault (.undecodableVariant s.blk.variant)

/-! ### Host actions and the code port -/

/-- An illegal command word: `STATUS <- ILLEGAL_COMMAND` and nothing else; it issues no transaction (R204). -/
def State.illegalWord (s : State) : State := s.begin.finish .illegalCommand

/-- A family code at the dispatch multiplexer (R104; log 6). -/
def State.driveMux (s : State) (fc : Byte) : State := { s with unitOut := .variant (dispatch fc) }

/-- A configuration byte at the active-resolution decoder (R80; log 6). -/
def State.driveConfig (s : State) (cfg : Byte) : State :=
  { s with unitOut := .resolution (activeResolution cfg) (activeMask cfg) }

/-- A word that is no instruction: an illegal command word (R204), or a data code that the table has no row for. The
multiplexer is total (R105), so a family code without a row still gets its answer. -/
def State.rejectWord (s : State) : PortWord → Host.Outcome State Fault Refusal
  | .command _ => .next s.illegalWord
  | .code .family b => .next (s.driveMux b)
  | .code .config b => .next (s.driveConfig b)
  | .code .bus b => .refused (.busByteNeverIssued b)

/-- `RST`: the selected handle's registers take their reset values; no other handle and nothing of the transport is
touched, and no transaction is outstanding (R220, R221). -/
def State.rst (s : State) : State := { s with blk := Block.reset, txns := [] }

/-- Construction of one more handle, which starts at reset (R220, R212). -/
def State.construct (s : State) : State := { s with after := s.after ++ [Block.reset] }

/-- All the handles in order of their numbers (R212). -/
def State.handles (s : State) : List Block := s.before ++ s.blk :: s.after

/-- Handle number `k` is selected for the commands that follow (log 9). -/
def State.select (s : State) (k : Nat) : Host.Outcome State Fault Refusal :=
  match s.handles[k]? with
  | some b => .next { s with before := s.handles.take k, blk := b, after := s.handles.drop (k + 1) }
  | none => .refused (.noSuchHandle k)

/-- The host reads a register: its value, or the fault that R34 and D29 demand where it holds none (log 10). -/
def State.look (s : State) (r : OutReg) : Host.Outcome State Fault Refusal :=
  match s.blk.output r with
  | some x => .next { s with seen := some (r, x) }
  | none => .fault (.noValue r)

end Sys2Proof.Machine
end

