-- ==== Sys2Proof/Machine/Codes.lean ====
section
/-! DEFINITION. The data codes of spec/opcode_table.json, presented alone at the code port (log 6): a family code at the dispatch multiplexer
(R104), a configuration byte at the active-resolution decoder (R80), a bus byte as its transaction (R55, R79). They are
no commands: none of them writes `STATUS`, `PRESENT`, `VARIANT`, `ADDR`, `RES`, `TEMP` or `RESULT`. -/

namespace Sys2Proof.Machine

/-- Family code 0x10 (R104). -/
def execFamily10 (s : State) : Host.Outcome State Fault Refusal := .next (s.driveMux 0x10#8)

/-- Family code 0x28 (R104). -/
def execFamily28 (s : State) : Host.Outcome State Fault Refusal := .next (s.driveMux 0x28#8)

/-- Family code 0x22 (R104). -/
def execFamily22 (s : State) : Host.Outcome State Fault Refusal := .next (s.driveMux 0x22#8)

/-- Configuration field 0x00 (R80). -/
def execCfgRes9 (bit7 : BitVec 1) (low : BitVec 5) (s : State) : Host.Outcome State Fault Refusal :=
  .next (s.driveConfig (configByte bit7 0b00#2 low))

/-- Configuration field 0x20 (R80). -/
def execCfgRes10 (bit7 : BitVec 1) (low : BitVec 5) (s : State) : Host.Outcome State Fault Refusal :=
  .next (s.driveConfig (configByte bit7 0b01#2 low))

/-- Configuration field 0x40 (R80). -/
def execCfgRes11 (bit7 : BitVec 1) (low : BitVec 5) (s : State) : Host.Outcome State Fault Refusal :=
  .next (s.driveConfig (configByte bit7 0b10#2 low))

/-- Configuration field 0x60 (R80). -/
def execCfgRes12 (bit7 : BitVec 1) (low : BitVec 5) (s : State) : Host.Outcome State Fault Refusal :=
  .next (s.driveConfig (configByte bit7 0b11#2 low))

/-- Bus byte 0x44: the start-conversion transaction (R55, R58). DESIGN CHOICE (log 6): it is issued whatever `PRESENT` is,
on which the spec is silent for a lone byte. -/
def execBusConvert (s : State) : Host.Outcome State Fault Refusal := .next s.begin.startConversion

/-- Bus byte 0xBE: the read-scratchpad transaction; the bytes of an `OK` answer go to `SP` (R55, R181).
DESIGN CHOICE (log 6): it is issued whatever `PRESENT` is. -/
def execBusRead (s : State) : Host.Outcome State Fault Refusal :=
  match s.txnAnswer with
  | .fail => .next s.begin.readScratchpad
  | .ok sp => .next (s.begin.readScratchpad.setBlk (s.blk.setSp sp))

/-- Bus byte 0x4E: the write-scratchpad transaction with bytes 2, 3 and 4 of `SP`, free bytes where `SP` holds no value
(R55, R34; log 20). DESIGN CHOICE (log 6): it is issued whatever `PRESENT` is. -/
def execBusWrite (s : State) : Host.Outcome State Fault Refusal := .next (s.begin.writeScratchpad s.spOrFree)

end Sys2Proof.Machine
end

