-- ==== Sys2Proof/Machine/Convert.lean ====
section
/-! DEFINITION. The conversion trigger (spec/42_conversion.md): CONVERT. -/

namespace Sys2Proof.Machine

/-- `CONVERT` (R151, R152). -/
def execConvert (s : State) : Host.Outcome State Fault Refusal :=
  if s.blk.present then
    match s.txnAnswer with
    | .fail => .next (s.begin.startConversion.finish .transportError)
    | .ok _ => .next (s.begin.startConversion.finish .ok)
  else .next (s.begin.finish .ok)

end Sys2Proof.Machine
end

