-- ==== Sys2Proof/Machine/Identify.lean ====
section
/-! DEFINITION. Identification (spec/40_identification.md): IDENTIFY, ASSERT, ISPRESENT. -/

namespace Sys2Proof.Machine

/-- The checks of IDENTIFY on the search's answer, in their fixed order (R110, R111). -/
def State.identifyAnswer (s : State) : Option Address → State
  | none => s.finish .notFound
  | some a =>
    if addrOK a then
      if dispatch a.family = .unsupported then (s.setBlk (s.blk.setVariant .unsupported)).finish .unsupportedDevice
      else (s.setBlk (s.blk.identifiedAs a (dispatch a.family))).finish .ok
    else s.finish .integrityError

/-- `IDENTIFY F` (R110). -/
def State.identify (s : State) (first : Bool) : State :=
  if s.blk.present then s.begin.finish .illegalState
  else (s.begin.busSearch first).identifyAnswer s.searchAnswer

/-- `ASSERT V` (R116). -/
def State.assertVariant (s : State) (v : Variant) : State :=
  if s.blk.present then s.begin.finish .illegalState
  else (s.begin.setBlk (s.blk.assertedAs v)).finish .ok

/-- `IDENTIFY FIRST` (R110). -/
def execIdentifyFirst (s : State) : Host.Outcome State Fault Refusal := .next (s.identify true)

/-- `IDENTIFY NEXT` (R110). -/
def execIdentifyNext (s : State) : Host.Outcome State Fault Refusal := .next (s.identify false)

/-- `ASSERT S` (R116). -/
def execAssertS (s : State) : Host.Outcome State Fault Refusal := .next (s.assertVariant .modelS)

/-- `ASSERT B` (R116). -/
def execAssertB (s : State) : Host.Outcome State Fault Refusal := .next (s.assertVariant .modelB)

/-- `ISPRESENT`: `RESULT <- zext_32(PRESENT)` (R120). -/
def execIsPresent (s : State) : Host.Outcome State Fault Refusal :=
  .next ((s.begin.setBlk (s.blk.setResult ((BitVec.ofBool s.blk.present).setWidth 32))).finish .ok)

end Sys2Proof.Machine
end

