-- ==== Sys2Proof/Machine/Resolution.lean ====
section
/-! DEFINITION. Resolution configuration (spec/41_resolution.md): SETRES, and the latencies a host waits out (R228). -/

namespace Sys2Proof.Machine

/-- The write-back of SETRES: the configuration byte is merged into the bytes read, the three bytes are written, and
`RES` is written if the write is answered `OK` (R137). -/
def State.writeBack (s : State) (sp : Scratchpad) (r : BitVec 4) : State :=
  let sp' := { sp with config := cfgCompute Config.cfgMerge sp.config r }
  let s' := s.setBlk (s.blk.setSp sp')
  let s'' := s'.writeScratchpad sp'
  match s'.txnAnswer with
  | .fail => s''.finish .transportError
  | .ok _ => (s''.setBlk (s''.blk.setRes r)).finish .ok

/-- `SETRES #N` (R131, R137). -/
def execSetres (n : Int) (s : State) : Host.Outcome State Fault Refusal :=
  if s.blk.present then
    match s.txnAnswer with
    | .fail => .next (s.begin.readScratchpad.finish .transportError)
    | .ok sp => .next (s.begin.readScratchpad.writeBack sp (clamp n s.blk.variant))
  else .next (s.begin.finish .notPresent)

/-- `LATENCY(r)` in units of 10 microseconds: 93.75 ms times 2^(r - 9) (R228). Timing only: no step depends on it. -/
def latency (r : BitVec 4) : Nat := 9375 * 2 ^ (r.toNat - 9)

/-- How long the host waits after CONVERT, in units of 10 microseconds: by `RES` when `RES_VALID` = 1, else the largest
figure (R228, D26). -/
def Block.hostWait (b : Block) : Nat :=
  match b.res with
  | some r => latency r
  | none => latency 12#4

end Sys2Proof.Machine
end

