-- ==== Sys2Proof/Machine/Temperature.lean ====
section
/-! DEFINITION. The read commands (spec/43_decode.md, section 2): READ and READC. -/

namespace Sys2Proof.Machine

/-- The scratchpad as fetched: the read transaction was answered `OK` with `sp` (R181). -/
def State.fetched (s : State) (sp : Scratchpad) : State :=
  s.begin.readScratchpad.setBlk (s.blk.setSp sp)

/-- `READ` (R180 to R182). -/
def execRead (s : State) : Host.Outcome State Fault Refusal :=
  if s.blk.present then
    match s.txnAnswer with
    | .fail => .next (s.begin.readScratchpad.readFailed .transportError)
    | .ok sp => (s.fetched sp).reading sp
  else .next (s.begin.readFailed .notPresent)

/-- `READC`: as READ, with the integrity check before `RESULT` and `TEMP` are written (R187, R188). -/
def execReadc (s : State) : Host.Outcome State Fault Refusal :=
  if s.blk.present then
    match s.txnAnswer with
    | .fail => .next (s.begin.readScratchpad.readFailed .transportError)
    | .ok sp => if spOK sp then (s.fetched sp).reading sp else .next ((s.fetched sp).readFailed .integrityError)
  else .next (s.begin.readFailed .notPresent)

end Sys2Proof.Machine
end

