-- ==== Sys2Proof/Machine/Dispatch.lean ====
section
/-! DEFINITION. One arm per constructor of Instr. -/

namespace Sys2Proof.Machine

def exec (i : Instr) (s : State) : Host.Outcome State Fault Refusal :=
  match i with
  | .identifyFirst => Sys2Proof.Machine.execIdentifyFirst s
  | .identifyNext => Sys2Proof.Machine.execIdentifyNext s
  | .assertS => Sys2Proof.Machine.execAssertS s
  | .assertB => Sys2Proof.Machine.execAssertB s
  | .isPresent => Sys2Proof.Machine.execIsPresent s
  | .setres n => Sys2Proof.Machine.execSetres n s
  | .convert => Sys2Proof.Machine.execConvert s
  | .read => Sys2Proof.Machine.execRead s
  | .readc => Sys2Proof.Machine.execReadc s
  -- the data codes of the table
  | .family10 => Sys2Proof.Machine.execFamily10 s
  | .family28 => Sys2Proof.Machine.execFamily28 s
  | .family22 => Sys2Proof.Machine.execFamily22 s
  | .cfgRes9 bit7 low => Sys2Proof.Machine.execCfgRes9 bit7 low s
  | .cfgRes10 bit7 low => Sys2Proof.Machine.execCfgRes10 bit7 low s
  | .cfgRes11 bit7 low => Sys2Proof.Machine.execCfgRes11 bit7 low s
  | .cfgRes12 bit7 low => Sys2Proof.Machine.execCfgRes12 bit7 low s
  | .busConvert => Sys2Proof.Machine.execBusConvert s
  | .busRead => Sys2Proof.Machine.execBusRead s
  | .busWrite => Sys2Proof.Machine.execBusWrite s

end Sys2Proof.Machine
end

