-- ==== Sys2Proof/Machine/Step.lean ====
section
/-! DEFINITION. One step: the host's next action is taken (R20, R32). -/

namespace Sys2Proof.Machine

/-- A word at the selected handle: the instruction it decodes to is run, and legality is decided before anything else
(R205). -/
def runWord (p : PortWord) (s : State) : Host.Outcome State Fault Refusal :=
  match decode p with
  | .instr i => exec i s
  | .reject _ => s.rejectWord p

/-- What one action of the host does (R32, R212, R220). -/
def runInput (x : HostInput) (s : State) : Host.Outcome State Fault Refusal :=
  match x with
  | .word p => runWord p s
  | .rst => .next s.rst
  | .construct => .next s.construct
  | .select k => s.select k
  | .look r => s.look r

/-- One step of the machine. With no action pending the block does nothing (R20, R21; log 8). -/
def step (s : State) : Host.Outcome State Fault Refusal :=
  match s.inputs with
  | [] => .next s
  | x :: rest => runInput x { s with inputs := rest }

/-- The table row's bits become the host's very next action (log 13). -/
def State.withFetchWord (s : State) (nbits w : Nat) : State :=
  { s with inputs := .word (tablePort nbits w) :: s.inputs }

end Sys2Proof.Machine
end

