-- ==== Sys2Proof/Machine/Assembler.lean ====
section
/-! DEFINITION. The assembler of R83: the word of each line, and how a line is written. -/

namespace Sys2Proof.Machine

/-- The word of an assembler line; none where the assembler refuses the line (R83). -/
def assemble : AsmLine → Option Word16
  | .identify none => some 0x1001#16
  | .identify (some true) => some 0x1001#16
  | .identify (some false) => some 0x1000#16
  | .assertS => some 0x2001#16
  | .assertB => some 0x2002#16
  | .isPresent => some 0x3000#16
  | .setres n => if -128 ≤ n ∧ n ≤ 127 then some (0x4000#16 ||| (BitVec.ofInt 16 n &&& 0xFF#16)) else none
  | .convert => some 0x5000#16
  | .read => some 0x6000#16
  | .readc => some 0x7000#16
  | .word w => some w

/-- The instruction an assembler line stands for; none for `.word` and for a refused line (R83). -/
def asmInstr : AsmLine → Option Instr
  | .identify none => some .identifyFirst
  | .identify (some true) => some .identifyFirst
  | .identify (some false) => some .identifyNext
  | .assertS => some .assertS
  | .assertB => some .assertB
  | .isPresent => some .isPresent
  | .setres n => if (Instr.setres n).wellFormed then some (.setres n) else none
  | .convert => some .convert
  | .read => some .read
  | .readc => some .readc
  | .word _ => none

/-- Four hexadecimal digits of a word, as `.word` writes them. -/
def hexWord (w : Word16) : String :=
  String.ofList ((List.range 4).map fun i => (Nat.digitChar ((w.toNat >>> (4 * (3 - i))) % 16)).toUpper)

/-- The text of an assembler line (R83). -/
def asmText : AsmLine → String
  | .identify none => "IDENTIFY"
  | .identify (some true) => "IDENTIFY FIRST"
  | .identify (some false) => "IDENTIFY NEXT"
  | .assertS => "ASSERT S"
  | .assertB => "ASSERT B"
  | .isPresent => "ISPRESENT"
  | .setres n => "SETRES #" ++ toString n
  | .convert => "CONVERT"
  | .read => "READ"
  | .readc => "READC"
  | .word w => ".word 0x" ++ hexWord w

end Sys2Proof.Machine
end

