-- ==== Sys2Proof/Safety.lean ====
section
/-! DEFINITION. What claims about a run are stated in: the invariants of R31, and the environment premise `DEVICE_STABLE` (R65, D27). -/

namespace Sys2Proof.Machine

/-- The illegal command words, from the three fields of R70 read as numbers: the grounds of R73 with the operand table of R72.
Written apart from the decoder, so that the two can be compared. -/
def IllegalWord (w : Word16) : Prop :=
  let op := w.toNat / 4096
  let z := w.toNat / 256 % 16
  let imm := w.toNat % 256
  op = 0 ∨ 8 ≤ op ∨ z ≠ 0 ∨ (op = 1 ∧ 2 ≤ imm) ∨ (op = 2 ∧ (imm = 0 ∨ 3 ≤ imm)) ∨
    ((op = 3 ∨ op = 5 ∨ op = 6 ∨ op = 7) ∧ imm ≠ 0)

/-- The invariants (I-a) to (I-d) of R31, and one more that they rest on: a block that is not present has never been
identified, so it holds no identity, no resolution and no temperature (R23, R37, R112; DEDUCED, log 27). -/
structure Block.Inv (b : Block) : Prop where
  /-- (I-a) -/
  present_variant : b.present = true → b.variant = .modelS ∨ b.variant = .modelB
  /-- (I-b) -/
  addr_identity : ∀ a, b.addr = some a →
    b.present = true ∧ Config.crc8 a.crcBytes = a.crc ∧ b.variant = dispatch a.family
  /-- (I-c) -/
  variant_code : b.variant.code ≠ 0b11#2
  /-- (I-d) -/
  res_range : ∀ r, b.res = some r → 9 ≤ r.toNat ∧ r.toNat ≤ 12 ∧ (b.variant = .modelS → r.toNat = 9)
  /-- DEDUCED (log 27). -/
  absent_blank : b.present = false → b.variant = .unsupported ∧ b.addr = none ∧ b.res = none ∧ b.temp = none

/-- Every handle meets the invariants. -/
def State.Inv (s : State) : Prop := ∀ b ∈ s.handles, b.Inv

/-- `TEMP` holds only what the decoder produces, the conversion of a scaled word (R28, R168, R173). -/
def State.TempDecoded (s : State) : Prop := ∀ b ∈ s.handles, ∀ f, b.temp = some f → ∃ raw, f = toFloat (scale raw)

/-- `DEVICE_STABLE` (D27) over the transactions that reach one device, in order. `last` is what the scratchpad read
since the last conversion or write, `written` what bytes 2 to 4 were last written as (log 24). -/
def deviceStable (last written : Option (List Byte)) : List Exchange → Prop
  | [] => True
  | .search _ _ :: rest => deviceStable last written rest
  | .txn _ cmd8 wdata _ answer :: rest =>
    if cmd8 = busReadScratchpad then
      match answer with
      | none => deviceStable last written rest
      | some bytes =>
        (∀ x, last = some x → bytes = x) ∧ (∀ x, written = some x → (bytes.drop 2).take 3 = x) ∧
          deviceStable (some bytes) written rest
    else if cmd8 = busWriteScratchpad then
      match answer with
      | none => deviceStable none none rest
      | some _ => deviceStable none (some wdata) rest
    else deviceStable none written rest

/-- The value of a finite binary32 pattern, for any exponent field below 255 (R9). -/
def float32Value (p : Float32Bits) : ℚ :=
  let frac : ℚ := ((p.extractLsb' 0 23).toNat : ℚ)
  let expo := (p.extractLsb' 23 8).toNat
  let mag : ℚ := if expo = 0 then frac / 2 ^ 149 else (2 ^ 23 + frac) * 2 ^ expo / 2 ^ 150
  if p.getLsbD 31 then -mag else mag

end Sys2Proof.Machine
end

