-- ==== Sys2Proof/Certificates/Slice0/Obligations.lean ====
section
/-! DEFINITION. The statements about the DS1820 decode core. Each docstring names the rule it formalises.
A statement about a command names the registers by a record update of `s.blk`: what the update does not name is unchanged. -/

open Sys2Proof
open Sys2Proof.Machine

/-! ### Encoding -/

/-- R72, R83, R75, R79, R80: decoding an encoded well-formed instruction gives it back, every operand value included. -/
def Obligations.DecodeOfEncodeIsTheInstruction : Prop :=
  ∀ i : Instr, i.wellFormed = true → decode (encode i) = .instr i

/-- R73, last sentence ("Every legal word is exactly one command"), and the same for data codes: what decodes is well
formed and is encoded by that word alone. -/
def Obligations.DecodedWordIsTheEncoding : Prop :=
  ∀ (p : PortWord) (i : Instr), decode p = .instr i → i.wellFormed = true ∧ encode i = p

/-- R73: the decoder rejects the words that the four grounds of the rule name, and every one of them has the effect of R204
(`State.illegalWord`); every other word is one command. -/
def Obligations.RejectedWordsAreTheIllegalOnes : Prop :=
  ∀ w : Word16,
    (IllegalWord w → (∃ r, decode (.command w) = .reject r) ∧ ∀ s, runWord (.command w) s = .next s.illegalWord) ∧
    (¬ IllegalWord w → ∃ i, decode (.command w) = .instr i ∧ i.isCommand = true)

/-- R83 and R84: the words written out there. A sanity statement. -/
def Obligations.WordsOfTheSyntaxTableDecode : Prop :=
  decode (.command 0x1001#16) = .instr .identifyFirst ∧ decode (.command 0x1000#16) = .instr .identifyNext ∧
  decode (.command 0x2001#16) = .instr .assertS ∧ decode (.command 0x2002#16) = .instr .assertB ∧
  decode (.command 0x3000#16) = .instr .isPresent ∧ decode (.command 0x400A#16) = .instr (.setres 10) ∧
  decode (.command 0x40FF#16) = .instr (.setres (-1)) ∧ decode (.command 0x407F#16) = .instr (.setres 127) ∧
  decode (.command 0x5000#16) = .instr .convert ∧ decode (.command 0x6000#16) = .instr .read ∧
  decode (.command 0x7000#16) = .instr .readc ∧ (decode (.command 0x0000#16)).toOption = none ∧
  (decode (.command 0x1102#16)).toOption = none ∧ (decode (.command 0x1002#16)).toOption = none ∧
  (decode (.command 0x2003#16)).toOption = none ∧ (decode (.command 0x6001#16)).toOption = none

/-- R83: the assembler refuses a line exactly when it is SETRES outside -128 to 127; the word of any other line that is
not `.word` decodes to the instruction the line spells. -/
def Obligations.AssembledLineDecodesToItsInstruction : Prop :=
  ∀ line : AsmLine,
    (assemble line = none ↔ ∃ n, line = .setres n ∧ (n < -128 ∨ 127 < n)) ∧
    ∀ w, assemble line = some w →
      line = .word w ∨ ∃ i, asmInstr line = some i ∧ decode (.command w) = .instr i

/-- R51, R52 and the offsets of R50: byte i of the `ADDR` and `SP` registers stands in bits 8i+7:8i, and the raw word is
little-endian. -/
def Obligations.RegisterBytesStandInIndexOrder : Prop :=
  (∀ (a : Address) (i : Nat) (h : i < a.bytes.length), a.toWord.extractLsb' (8 * i) 8 = a.bytes[i]) ∧
  (∀ (sp : Scratchpad) (i : Nat) (h : i < sp.bytes.length), sp.toWord.extractLsb' (8 * i) 8 = sp.bytes[i]) ∧
  (∀ sp : Scratchpad, (raw0 sp).toNat = sp.tempLow.toNat + 256 * sp.tempHigh.toNat)

/-! ### The step and the host's actions -/

/-- A step takes the host's next action off the queue: a word that decodes to `i` is `exec i`, any word is `runWord`, a
selection is `State.select`, a host read is `State.look`; with no action pending nothing changes (R20, R205, R212, R34;
the queue is the model's, log 8). -/
def Obligations.StepRunsTheDecodedInstruction : Prop :=
  ∀ (s : State) (rest : List HostInput),
    (∀ p, s.inputs = .word p :: rest → step s = runWord p { s with inputs := rest } ∧
      ∀ i, decode p = .instr i → step s = exec i { s with inputs := rest }) ∧
    (∀ k, s.inputs = .select k :: rest → step s = State.select { s with inputs := rest } k) ∧
    (∀ r, s.inputs = .look r :: rest → step s = State.look { s with inputs := rest } r) ∧
    (s.inputs = [] → step s = .next s)

/-- R204, R205: an illegal command word writes `STATUS <- ILLEGAL_COMMAND`, whatever the state, and has no other effect;
it issues no transaction. -/
def Obligations.IllegalWordWritesOnlyStatus : Prop :=
  ∀ (s : State) (w : Word16), IllegalWord w →
    ∃ t, runWord (.command w) s = .next t ∧ t.blk = { s.blk with status := .illegalCommand } ∧ t.txns = [] ∧
      t.before = s.before ∧ t.after = s.after

/-- R37, R220: `RST` puts every register of the selected handle into the value of the reset table and touches no other
handle and nothing of the transport; a constructed handle holds the same values. The queue of host actions is the
model's (log 8), and so are the emptying of the transaction list (log 11) and the place of a constructed handle, the last
number, with the selection kept (DESIGN CHOICE, log 9). -/
def Obligations.ResetEventsGiveTheResetTable : Prop :=
  ∀ (s : State) (rest : List HostInput),
    (s.inputs = .rst :: rest → ∃ t, step s = .next t ∧
      t.blk.present = false ∧ t.blk.variant.code = 0b00#2 ∧ t.blk.addrValid = false ∧ t.blk.resValid = false ∧
      t.blk.tempValid = false ∧ t.blk.addr = none ∧ t.blk.sp = none ∧ t.blk.res = none ∧ t.blk.temp = none ∧
      t.blk.result = 0x00000000#32 ∧ t.blk.status.code = 0x0#4 ∧
      t.before = s.before ∧ t.after = s.after ∧ t.searchAnswers = s.searchAnswers ∧ t.txnAnswers = s.txnAnswers ∧
      t.draws = s.draws ∧ t.txns = []) ∧
    (s.inputs = .construct :: rest → ∃ t b, step s = .next t ∧
      t.handles = s.handles ++ [b] ∧ b = Block.reset ∧ t.blk = s.blk ∧ t.txns = s.txns ∧
      t.searchAnswers = s.searchAnswers ∧ t.txnAnswers = s.txnAnswers)

/-- R212: selecting a handle keeps every handle and makes number `k` the selected one; a number that no handle has is
refused (the numbering is the model's, log 9). -/
def Obligations.SelectingKeepsEveryHandle : Prop :=
  ∀ (s : State) (k : Nat),
    (∀ h : k < s.handles.length, ∃ t, s.select k = .next t ∧ t.handles = s.handles ∧ t.blk = s.handles[k] ∧
      t.txns = s.txns ∧ t.inputs = s.inputs) ∧
    (s.handles.length ≤ k → s.select k = .refused (.noSuchHandle k))

/-- R34, D29: a host read of `ADDR`, `RES` or `TEMP` with its valid bit 0, or of `SP`, faults; every other read succeeds,
records the output's value (said register by register in HostReadShowsTheRegister) and changes no register and no
transaction list. -/
def Obligations.HostReadFaultsExactlyWithoutAValue : Prop :=
  ∀ (s : State) (r : OutReg),
    (((r = .addr ∧ s.blk.addrValid = false) ∨ (r = .res ∧ s.blk.resValid = false) ∨
        (r = .temp ∧ s.blk.tempValid = false) ∨ r = .sp) → s.look r = .fault (.noValue r)) ∧
    (¬ ((r = .addr ∧ s.blk.addrValid = false) ∨ (r = .res ∧ s.blk.resValid = false) ∨
        (r = .temp ∧ s.blk.tempValid = false) ∨ r = .sp) →
      ∃ t x, s.look r = .next t ∧ s.blk.output r = some x ∧ t.seen = some (r, x) ∧ t.handles = s.handles ∧ t.txns = s.txns)

/-! ### Identification -/

/-- R110, R111, R108, R109: IDENTIFY in its five outcomes, in the order of the checks: present; no address; address CRC
wrong, whatever the family; family code not 0x10, 0x28 or 0x22; success. -/
def Obligations.IdentifyInItsFiveOutcomes : Prop :=
  decode (.command 0x1001#16) = .instr .identifyFirst ∧ decode (.command 0x1000#16) = .instr .identifyNext ∧
  ∀ (s : State) (first : Bool) (i : Instr), i = (if first then .identifyFirst else .identifyNext) →
    (s.blk.present = true → ∃ t, exec i s = .next t ∧ t.blk = { s.blk with status := .illegalState } ∧ t.txns = []) ∧
    (s.blk.present = false → s.searchAnswer = none →
      ∃ t, exec i s = .next t ∧ t.blk = { s.blk with status := .notFound } ∧ t.txns = [.search first none]) ∧
    (∀ a, s.blk.present = false → s.searchAnswer = some a → Config.crc8 (a.bytes.take 7) ≠ a.crc →
      ∃ t, exec i s = .next t ∧ t.blk = { s.blk with status := .integrityError } ∧ t.txns = [.search first (some a)]) ∧
    (∀ a, s.blk.present = false → s.searchAnswer = some a → Config.crc8 (a.bytes.take 7) = a.crc →
      a.family ≠ 0x10#8 → a.family ≠ 0x28#8 → a.family ≠ 0x22#8 →
      ∃ t, exec i s = .next t ∧ t.blk = { s.blk with variant := .unsupported, status := .unsupportedDevice } ∧
        t.txns = [.search first (some a)]) ∧
    (∀ a v, s.blk.present = false → s.searchAnswer = some a → Config.crc8 (a.bytes.take 7) = a.crc →
      ((a.family = 0x10#8 ∧ v = .modelS) ∨ (a.family = 0x28#8 ∧ v = .modelB) ∨ (a.family = 0x22#8 ∧ v = .modelB)) →
      ∃ t, exec i s = .next t ∧
        t.blk = { s.blk with present := true, variant := v, addr := some a, status := .ok } ∧
        t.txns = [.search first (some a)])

/-- R112, under the invariants of R31: an IDENTIFY that does not end OK on a handle not present writes nothing but
`STATUS`, and the identity registers are 0, 0, no value and UNSUPPORTED. -/
def Obligations.FailedIdentifyWritesOnlyStatus : Prop :=
  ∀ (s t : State) (i : Instr), i = .identifyFirst ∨ i = .identifyNext → s.blk.Inv → s.blk.present = false →
    exec i s = .next t → t.blk.status ≠ .ok →
    t.blk = { s.blk with status := t.blk.status } ∧ t.blk.present = false ∧ t.blk.addrValid = false ∧
      t.blk.addr = none ∧ t.blk.variant = .unsupported

/-- R116: ASSERT on a handle not present and on a present one. -/
def Obligations.AssertSetsVariantAndPresence : Prop :=
  decode (.command 0x2001#16) = .instr .assertS ∧ decode (.command 0x2002#16) = .instr .assertB ∧
  ∀ (s : State) (i : Instr) (v : Variant), (i = .assertS ∧ v = .modelS) ∨ (i = .assertB ∧ v = .modelB) →
    (s.blk.present = false → ∃ t, exec i s = .next t ∧
      t.blk = { s.blk with variant := v, present := true, status := .ok } ∧ t.txns = []) ∧
    (s.blk.present = true → ∃ t, exec i s = .next t ∧ t.blk = { s.blk with status := .illegalState } ∧ t.txns = [])

/-- R120: ISPRESENT copies `PRESENT` into `RESULT` as 0x00000000 or 0x00000001 and ends OK. -/
def Obligations.IsPresentCopiesPresence : Prop :=
  decode (.command 0x3000#16) = .instr .isPresent ∧
  ∀ s : State, ∃ t, exec .isPresent s = .next t ∧
    t.blk = { s.blk with result := if s.blk.present then 0x00000001#32 else 0x00000000#32, status := .ok } ∧
    t.txns = []

/-- R118: on a present handle no instruction writes `VARIANT`, `ADDR`, `ADDR_VALID` or `PRESENT`, and IDENTIFY and ASSERT
end with `ILLEGAL_STATE` and change nothing else. -/
def Obligations.IdentityIsFixedWhilePresent : Prop :=
  ∀ s : State, s.blk.present = true →
    (∀ i t, exec i s = .next t → t.blk.present = true ∧ t.blk.variant = s.blk.variant ∧ t.blk.addr = s.blk.addr ∧
      t.blk.addrValid = s.blk.addrValid) ∧
    (∀ i, i = .identifyFirst ∨ i = .identifyNext ∨ i = .assertS ∨ i = .assertB →
      ∃ t, exec i s = .next t ∧ t.blk = { s.blk with status := .illegalState } ∧ t.txns = [])

/-- R23, R117: `PRESENT` changes only from 0 to 1, only by an IDENTIFY whose address passes the CRC check and dispatches
to a supported variant, or by ASSERT, and only with status OK. -/
def Obligations.PresenceComesOnlyFromIdentifyOrAssert : Prop :=
  ∀ (i : Instr) (s t : State), exec i s = .next t → t.blk.present ≠ s.blk.present →
    s.blk.present = false ∧ t.blk.present = true ∧ t.blk.status = .ok ∧
    ((i = .assertS ∧ t.blk.variant = .modelS) ∨ (i = .assertB ∧ t.blk.variant = .modelB) ∨
      ((i = .identifyFirst ∨ i = .identifyNext) ∧ ∃ a, t.blk.addr = some a ∧ Config.crc8 a.crcBytes = a.crc ∧
        t.blk.variant = dispatch a.family ∧ dispatch a.family ≠ .unsupported))

/-- R104, R105: the dispatch multiplexer, driven alone at the code port (the model's port, log 6), answers every family
code with the two output bits of the rule, and never the reserved code. -/
def Obligations.MultiplexerAnswersEveryFamilyCode : Prop :=
  ∀ (s : State) (fc : Byte), ∃ t v, runWord (.code .family fc) s = .next t ∧ t = { s with unitOut := .variant v } ∧
    (v.code.getLsbD 0 = true ↔ fc = 0x10#8) ∧ (v.code.getLsbD 1 = true ↔ fc = 0x28#8 ∨ fc = 0x22#8) ∧
    v ≠ .reserved

/-! ### Resolution -/

/-- R130: the clamp, from both sides, and 9 for ModelS whatever the request. -/
def Obligations.ClampGivesNineToTwelve : Prop :=
  ∀ (n : Int) (v : Variant),
    ((clamp n v).toNat : Int) = (if v = .modelS then 9 else min 12 (max 9 n)) ∧
    9 ≤ (clamp n v).toNat ∧ (clamp n v).toNat ≤ 12

/-- R132: REPLACE puts r - 9 into bits 6:5 and keeps bits 7 and 4:0; OR can only set bits, and sets no bit outside the
field; this hardware takes REPLACE. -/
def Obligations.ConfigurationByteKeepsTheOtherBits : Prop :=
  Config.cfgMerge = .replace ∧ ∀ (cfg : Byte) (r : BitVec 4), 9 ≤ r.toNat → r.toNat ≤ 12 →
    (cfgCompute .replace cfg r).toNat / 32 % 4 = r.toNat - 9 ∧
    (cfgCompute .replace cfg r).toNat / 128 = cfg.toNat / 128 ∧
    (cfgCompute .replace cfg r).toNat % 32 = cfg.toNat % 32 ∧
    (∀ k, k < 8 → ((cfgCompute .or cfg r).getLsbD k = true ↔
      cfg.getLsbD k = true ∨ (cfgCompute .replace 0x00#8 r).getLsbD k = true)) ∧
    cfgCompute .or 0x7F#8 9#4 = 0x7F#8

/-- R137, R131, R133, R134, R135: SETRES in its four outcomes. The trip-point bytes are written back as read, the read is
not CRC-checked, and `RES` is written on OK only. The second answer is the one the transport gives after the first. -/
def Obligations.SetresInItsFourOutcomes : Prop :=
  (∀ imm : Byte, decode (.command (0x40#8 ++ imm)) = .instr (.setres imm.toInt)) ∧
  ∀ (s : State) (n : Int) (r : BitVec 4), (r.toNat : Int) = (if s.blk.variant = .modelS then 9 else min 12 (max 9 n)) →
    (s.blk.present = false → ∃ t, exec (.setres n) s = .next t ∧
      t.blk = { s.blk with status := .notPresent } ∧ t.txns = []) ∧
    (s.blk.present = true → s.txnAnswer = .fail → ∃ t, exec (.setres n) s = .next t ∧
      t.blk = { s.blk with status := .transportError } ∧ t.txns = [.txn s.blk.sel 0xBE#8 [] 9 none]) ∧
    (∀ sp c, s.blk.present = true → s.txnAnswer = .ok sp →
      c = (sp.config &&& 0x9F#8) ||| ((r - 9#4).setWidth 8 <<< 5) →
      (s.readScratchpad.txnAnswer = .fail → ∃ t, exec (.setres n) s = .next t ∧
        t.blk = { s.blk with sp := some { sp with config := c }, status := .transportError } ∧
        t.txns = [.txn s.blk.sel 0xBE#8 [] 9 (some sp.bytes),
          .txn s.blk.sel 0x4E#8 [sp.tripHigh, sp.tripLow, c] 0 none]) ∧
      (∀ x, s.readScratchpad.txnAnswer = .ok x → ∃ t, exec (.setres n) s = .next t ∧
        t.blk = { s.blk with sp := some { sp with config := c }, res := some r, status := .ok } ∧
        t.txns = [.txn s.blk.sel 0xBE#8 [] 9 (some sp.bytes),
          .txn s.blk.sel 0x4E#8 [sp.tripHigh, sp.tripLow, c] 0 (some [])]))

/-- R138: a SETRES that ends OK on a ModelB handle, then a READ that ends OK, with the device stable (D27): the READ masks
exactly `12 - Clamp(N, MODEL_B)` low bits of the raw word it fetched. -/
def Obligations.ReadAfterSetresMasksTheRequestedBits : Prop :=
  ∀ (s t u : State) (n : Int) (sp : Scratchpad),
    s.blk.present = true → s.blk.variant = .modelB →
    exec (.setres n) s = .next t → t.blk.status = .ok →
    exec .read t = .next u → t.txnAnswer = .ok sp → deviceStable none none (t.txns ++ u.txns) →
    u.blk.status = .ok ∧
    ∃ k : Nat, (k : Int) = 12 - min 12 (max 9 n) ∧
      u.blk.temp = some (toFloat (scale (BitVec.ofNat 16 ((raw0 sp).toNat / 2 ^ k * 2 ^ k))))

/-- R228: the four latencies, in units of 10 microseconds, and the host's wait: by `RES` when `RES_VALID` = 1, else 750 ms. -/
def Obligations.HostWaitsTheLatencyOfRes : Prop :=
  latency 9#4 = 9375 ∧ latency 10#4 = 18750 ∧ latency 11#4 = 37500 ∧ latency 12#4 = 75000 ∧
  ∀ b : Block, (∀ r, b.res = some r → b.hostWait = 9375 * 2 ^ (r.toNat - 9)) ∧
    (b.resValid = false → b.hostWait = 75000)

/-! ### Conversion -/

/-- R152, R151: CONVERT in its three outcomes. -/
def Obligations.ConvertInItsThreeOutcomes : Prop :=
  decode (.command 0x5000#16) = .instr .convert ∧
  ∀ s : State,
    (s.blk.present = false → ∃ t, exec .convert s = .next t ∧ t.blk = { s.blk with status := .ok } ∧ t.txns = []) ∧
    (s.blk.present = true → s.txnAnswer = .fail → ∃ t, exec .convert s = .next t ∧
      t.blk = { s.blk with status := .transportError } ∧ t.txns = [.txn s.blk.sel 0x44#8 [] 0 none]) ∧
    (∀ x, s.blk.present = true → s.txnAnswer = .ok x → ∃ t, exec .convert s = .next t ∧
      t.blk = { s.blk with status := .ok } ∧ t.txns = [.txn s.blk.sel 0x44#8 [] 0 (some [])])

/-! ### The temperature decoder -/

/-- R162, R163, R168, R78: the ModelS word in exact arithmetic, narrowed modulo 2^16 at the end. -/
def Obligations.ModelSDecodesByTheCountRemainFormula : Prop :=
  ∀ (sp : Scratchpad) (raw x : Int), raw = sp.tempLow.toNat + 256 * sp.tempHigh.toNat →
    x = (if sp.countPerC = 0x10#8 then (8 * raw % 65536) / 16 * 16 + 12 - sp.countRemain.toNat else 8 * raw) →
    ∃ w : Word16, decodeTemp sp .modelS = some (toFloat w) ∧ (w.toNat : Int) = 16 * x % 65536

/-- R165, R168, R80: the ModelB word in exact arithmetic; the field in bits 6:5 of byte 4 says how many low bits are
cleared. -/
def Obligations.ModelBDecodesByTheActiveResolution : Prop :=
  ∀ (sp : Scratchpad) (raw k : Nat), raw = sp.tempLow.toNat + 256 * sp.tempHigh.toNat →
    k = 3 - sp.config.toNat / 32 % 4 →
    ∃ w : Word16, decodeTemp sp .modelB = some (toFloat w) ∧ w.toNat = 16 * (raw / 2 ^ k * 2 ^ k) % 65536

/-- R165, R166, R173: the decoder depends on nothing but the bytes the rules name. For ModelB the low bits that the active
resolution leaves undefined, byte 4 outside its field, and bytes 6 and 7 do not matter; for ModelS byte 4 does not. -/
def Obligations.DecoderReadsOnlyTheDefinedBits : Prop :=
  ∀ (p q : Scratchpad),
    (p.config.toNat / 32 % 4 = q.config.toNat / 32 % 4 →
      (raw0 p).toNat / 2 ^ (3 - p.config.toNat / 32 % 4) = (raw0 q).toNat / 2 ^ (3 - p.config.toNat / 32 % 4) →
      decodeTemp p .modelB = decodeTemp q .modelB) ∧
    (p.tempLow = q.tempLow → p.tempHigh = q.tempHigh → p.countPerC = q.countPerC →
      (p.countPerC = 0x10#8 → p.countRemain = q.countRemain) → decodeTemp p .modelS = decodeTemp q .modelS)

/-- R170, R171: `ToFloat` is exact: the binary32 value of its pattern is the signed word divided by 256. -/
def Obligations.ToFloatIsExact : Prop :=
  ∀ w : Word16, float32Value (toFloat w) = (w.toInt : ℚ) / 256

/-- R171: no result is a NaN or an infinity (exponent field 255), a subnormal or -0.0 (exponent field 0 with any other bit
set), and only 0x0000 gives 0.0. -/
def Obligations.ToFloatGivesNoSpecialValue : Prop :=
  ∀ w : Word16, ((toFloat w).extractLsb' 23 8).toNat ≠ 255 ∧
    (((toFloat w).extractLsb' 23 8).toNat = 0 → toFloat w = 0x00000000#32) ∧ (toFloat w = 0x00000000#32 ↔ w = 0x0000#16)

/-- R175: where the refined word fits the 12-bit signed range, the temperature is its signed value over 16; and without
correction and without a lost bit in the 3-bit shift it is the signed raw word over 2. -/
def Obligations.DecoderGivesSixteenthsOfADegree : Prop :=
  ∀ sp : Scratchpad,
    (-2048 ≤ (rawB sp).toInt → (rawB sp).toInt ≤ 2047 →
      ∃ f, decodeTemp sp .modelB = some f ∧ float32Value f = ((rawB sp).toInt : ℚ) / 16) ∧
    (-2048 ≤ (rawS2 sp).toInt → (rawS2 sp).toInt ≤ 2047 →
      ∃ f, decodeTemp sp .modelS = some f ∧ float32Value f = ((rawS2 sp).toInt : ℚ) / 16) ∧
    (sp.countPerC ≠ 0x10#8 → -256 ≤ (raw0 sp).toInt → (raw0 sp).toInt ≤ 255 →
      ∃ f, decodeTemp sp .modelS = some f ∧ float32Value f = ((raw0 sp).toInt : ℚ) / 2)

/-- R167, D30: with a good fetch on a present handle whose variant is neither ModelS nor ModelB, READ faults, and so does
READC where the scratchpad CRC is right. -/
def Obligations.DecodingAnUnknownVariantFaults : Prop :=
  ∀ (s : State) (sp : Scratchpad), s.blk.present = true → s.txnAnswer = .ok sp →
    (s.blk.variant = .unsupported ∨ s.blk.variant = .reserved) →
    exec .read s = .fault (.undecodableVariant s.blk.variant) ∧
    (Config.crc8 sp.crcBytes = sp.crc → exec .readc s = .fault (.undecodableVariant s.blk.variant))

/-! ### The read commands -/

/-- R182, R180, R181: READ in its three outcomes. The decoder's value is given by the statements about it. -/
def Obligations.ReadInItsThreeOutcomes : Prop :=
  decode (.command 0x6000#16) = .instr .read ∧
  ∀ s : State,
    (s.blk.present = false → ∃ t, exec .read s = .next t ∧
      t.blk = { s.blk with result := 0x00000000#32, status := .notPresent } ∧ t.txns = []) ∧
    (s.blk.present = true → s.txnAnswer = .fail → ∃ t, exec .read s = .next t ∧
      t.blk = { s.blk with result := 0x00000000#32, status := .transportError } ∧
      t.txns = [.txn s.blk.sel 0xBE#8 [] 9 none]) ∧
    (∀ sp, s.blk.present = true → s.blk.variant = .modelS ∨ s.blk.variant = .modelB → s.txnAnswer = .ok sp →
      ∃ t f, exec .read s = .next t ∧ decodeTemp sp s.blk.variant = some f ∧
        t.blk = { s.blk with sp := some sp, result := f, temp := some f, status := .ok } ∧
        t.txns = [.txn s.blk.sel 0xBE#8 [] 9 (some sp.bytes)])

/-- R188, R187, R180, R181: READC in its four outcomes; the integrity check covers bytes 0 to 7, and on a mismatch `TEMP` keeps
its value. -/
def Obligations.ReadcInItsFourOutcomes : Prop :=
  decode (.command 0x7000#16) = .instr .readc ∧
  ∀ s : State,
    (s.blk.present = false → ∃ t, exec .readc s = .next t ∧
      t.blk = { s.blk with result := 0x00000000#32, status := .notPresent } ∧ t.txns = []) ∧
    (s.blk.present = true → s.txnAnswer = .fail → ∃ t, exec .readc s = .next t ∧
      t.blk = { s.blk with result := 0x00000000#32, status := .transportError } ∧
      t.txns = [.txn s.blk.sel 0xBE#8 [] 9 none]) ∧
    (∀ sp, s.blk.present = true → s.txnAnswer = .ok sp → Config.crc8 (sp.bytes.take 8) ≠ sp.crc →
      ∃ t, exec .readc s = .next t ∧
        t.blk = { s.blk with sp := some sp, result := 0x00000000#32, status := .integrityError } ∧
        t.txns = [.txn s.blk.sel 0xBE#8 [] 9 (some sp.bytes)]) ∧
    (∀ sp, s.blk.present = true → s.blk.variant = .modelS ∨ s.blk.variant = .modelB → s.txnAnswer = .ok sp →
      Config.crc8 (sp.bytes.take 8) = sp.crc →
      ∃ t f, exec .readc s = .next t ∧ decodeTemp sp s.blk.variant = some f ∧
        t.blk = { s.blk with sp := some sp, result := f, temp := some f, status := .ok } ∧
        t.txns = [.txn s.blk.sel 0xBE#8 [] 9 (some sp.bytes)])

/-- R189: READ and READC do the same on any fetch whose CRC is right; and whatever READC ends in but `INTEGRITY_ERROR`, READ
ends in too. -/
def Obligations.ReadAndReadcDifferOnlyInTheCheck : Prop :=
  ∀ s : State,
    ((∀ sp, s.txnAnswer = .ok sp → Config.crc8 sp.crcBytes = sp.crc) → exec .readc s = exec .read s) ∧
    (∀ t, exec .readc s = .next t → t.blk.status ≠ .integrityError → exec .read s = .next t)

/-- R183: two READs in a row, both ending OK, with the device stable (D27), give the same `RESULT` and `TEMP`. -/
def Obligations.RepeatedReadGivesTheSameTemperature : Prop :=
  ∀ s t u : State, exec .read s = .next t → t.blk.status = .ok → exec .read t = .next u → u.blk.status = .ok →
    deviceStable none none (t.txns ++ u.txns) → u.blk.result = t.blk.result ∧ u.blk.temp = t.blk.temp ∧
      u.blk.tempValid = true

/-! ### Rules about the whole machine -/

/-- R23: while `PRESENT` = 0 no command issues a bus transaction, and none writes `SP`, `RES` or `TEMP`; only IDENTIFY
issues a request at all, one search. -/
def Obligations.BusTransactionsNeedAPresentHandle : Prop :=
  ∀ (i : Instr) (s t : State), i.isCommand = true → s.blk.present = false → exec i s = .next t →
    (∀ sel cmd8 wdata rlen answer, Exchange.txn sel cmd8 wdata rlen answer ∉ t.txns) ∧
    (t.txns ≠ [] → (i = .identifyFirst ∧ t.txns = [.search true s.searchAnswer]) ∨
      (i = .identifyNext ∧ t.txns = [.search false s.searchAnswer])) ∧
    t.blk.sp = s.blk.sp ∧ t.blk.res = s.blk.res ∧ t.blk.temp = s.blk.temp

/-- R200: from a block that meets the invariants of R31 every command ends in a next state: every failure is a status. -/
def Obligations.EveryCommandEndsWithAStatus : Prop :=
  ∀ (i : Instr) (s : State), i.isCommand = true → s.blk.Inv → ∃ t, exec i s = .next t

/-- R79, R59: the bus bytes a command issues, and by which command; every transaction selects `MATCH(ADDR)` when
`ADDR_VALID` = 1 and `SKIP` otherwise. -/
def Obligations.CommandsIssueOnlyTheirBusBytes : Prop :=
  ∀ (i : Instr) (s t : State), i.isCommand = true → exec i s = .next t →
    ∀ sel cmd8 wdata rlen answer, Exchange.txn sel cmd8 wdata rlen answer ∈ t.txns →
      ((cmd8 = 0x44#8 ∧ i = .convert) ∨ (cmd8 = 0xBE#8 ∧ ((∃ n, i = .setres n) ∨ i = .read ∨ i = .readc)) ∨
        (cmd8 = 0x4E#8 ∧ ∃ n, i = .setres n)) ∧
      ((s.blk.addrValid = true → ∃ a, s.blk.addr = some a ∧ sel = .matchAddr a) ∧
        (s.blk.addrValid = false → sel = .skip))

/-- R55: what each transaction of a command carries, to the device and from it; and R202: nothing is tried again. Only
SETRES issues two requests, and no command searches twice or sends one bus byte twice. -/
def Obligations.TransactionsHaveTheWidthsOfTheTable : Prop :=
  ∀ (i : Instr) (s t : State), i.isCommand = true → exec i s = .next t →
    (t.txns.length ≤ 1 ∨ (t.txns.length = 2 ∧ ∃ n, i = .setres n)) ∧
    (t.txns.Pairwise fun e f => match e, f with
      | .search _ _, .search _ _ => False
      | .search _ _, .txn _ _ _ _ _ => True
      | .txn _ _ _ _ _, .search _ _ => True
      | .txn _ c _ _ _, .txn _ d _ _ _ => c ≠ d) ∧
    ∀ sel cmd8 wdata rlen answer, Exchange.txn sel cmd8 wdata rlen answer ∈ t.txns →
      (cmd8 = 0x44#8 ∧ wdata = [] ∧ rlen = 0) ∨ (cmd8 = 0xBE#8 ∧ wdata = [] ∧ rlen = 9) ∨
      (cmd8 = 0x4E#8 ∧ rlen = 0 ∧ ∃ sp, t.blk.sp = some sp ∧ wdata = [sp.tripHigh, sp.tripLow, sp.config])

/-- R28: `TEMP` changes only by a READ or READC that ends OK, and then holds what `RESULT` holds. -/
def Obligations.TempIsWrittenOnlyByAGoodRead : Prop :=
  ∀ (i : Instr) (s t : State), exec i s = .next t →
    (t.blk.temp ≠ s.blk.temp → (i = .read ∨ i = .readc) ∧ t.blk.status = .ok) ∧
    ((i = .read ∨ i = .readc) → t.blk.status = .ok → t.blk.tempValid = true ∧ t.blk.temp = some t.blk.result)

/-- R29: READ and READC write `RESULT` on every outcome, the decoded temperature on OK and +0.0 otherwise; ISPRESENT writes
the presence; no other instruction writes it. -/
def Obligations.ResultIsWrittenByReadsAndIsPresent : Prop :=
  ∀ (i : Instr) (s t : State), exec i s = .next t →
    ((i = .read ∨ i = .readc) → t.blk.status ≠ .ok → t.blk.result = 0x00000000#32) ∧
    ((i = .read ∨ i = .readc) → t.blk.status = .ok →
      ∃ sp, s.txnAnswer = .ok sp ∧ decodeTemp sp s.blk.variant = some t.blk.result) ∧
    (i = .isPresent → t.blk.result = (BitVec.ofBool s.blk.present).setWidth 32) ∧
    (i ≠ .read → i ≠ .readc → i ≠ .isPresent → t.blk.result = s.blk.result)

/-- R22, R26, R27: no command's outcome depends on `SP`, `RES`, `TEMP`, `RESULT` or `STATUS` as they were before it. Two runs
from blocks that agree on `PRESENT`, `VARIANT` and `ADDR` issue the same transactions, end with the same identity and
status, and each other register is either written alike or left alone in both; a fault in one is a fault in the other. -/
def Obligations.CommandsReadOnlyTheIdentity : Prop :=
  ∀ (i : Instr) (s : State) (b : Block), i.isCommand = true →
    b.present = s.blk.present → b.variant = s.blk.variant → b.addr = s.blk.addr →
    (∀ t, exec i s = .next t → ∃ u, exec i { s with blk := b } = .next u ∧
      u.blk.present = t.blk.present ∧ u.blk.variant = t.blk.variant ∧ u.blk.addr = t.blk.addr ∧
      u.blk.status = t.blk.status ∧ u.txns = t.txns ∧
      (u.blk.sp = t.blk.sp ∨ (u.blk.sp = b.sp ∧ t.blk.sp = s.blk.sp)) ∧
      (u.blk.res = t.blk.res ∨ (u.blk.res = b.res ∧ t.blk.res = s.blk.res)) ∧
      (u.blk.temp = t.blk.temp ∨ (u.blk.temp = b.temp ∧ t.blk.temp = s.blk.temp)) ∧
      (u.blk.result = t.blk.result ∨ (u.blk.result = b.result ∧ t.blk.result = s.blk.result))) ∧
    (∀ r, exec i s = .fault r → exec i { s with blk := b } = .fault r)

/-- R22, R61, R212: an instruction of one handle changes no other handle; it takes nothing from the host's queue and leaves
what the host read, and only the family and configuration codes drive the code port's output (the model's fields, log 6,
log 8, log 10). -/
def Obligations.InstructionsLeaveOtherHandlesAlone : Prop :=
  ∀ (i : Instr) (s t : State), exec i s = .next t →
    t.before = s.before ∧ t.after = s.after ∧ t.inputs = s.inputs ∧ t.seen = s.seen ∧
    (i.isCommand = true ∨ i = .busConvert ∨ i = .busRead ∨ i = .busWrite → t.unitOut = s.unitOut)

/-- R56, R62: each request of a command or of a bus byte takes the next answer of its kind, in order, and no request goes
without one; a family or configuration code takes none and issues none (the lists of answers and the counter are the
model's, log 2, log 3, the codes' port is log 6; no value of the counter matters). -/
def Obligations.EachRequestTakesTheNextAnswer : Prop :=
  ∀ (i : Instr) (s t : State), exec i s = .next t →
    (i.isCommand = true ∨ i = .busConvert ∨ i = .busRead ∨ i = .busWrite →
      t.searchAnswers = s.searchAnswers.drop (t.txns.countP fun e => match e with | .search _ _ => true | .txn _ _ _ _ _ => false) ∧
      t.txnAnswers = s.txnAnswers.drop (t.txns.countP fun e => match e with | .search _ _ => false | .txn _ _ _ _ _ => true) ∧
      t.draws = s.draws + t.txns.length) ∧
    (i.isCommand = false → i ≠ .busConvert → i ≠ .busRead → i ≠ .busWrite →
      t.searchAnswers = s.searchAnswers ∧ t.txnAnswers = s.txnAnswers ∧ t.draws = s.draws ∧ t.txns = s.txns)

/-! ### Invariants -/

/-- R31 at the reset state (R37). -/
def Obligations.ResetStateMeetsTheInvariants : Prop :=
  State.Inv State.reset ∧ State.TempDecoded State.reset

/-- R31: every step from a state whose handles all meet the invariants leads to such a state. The clause `absent_blank` is
DEDUCED (log 27). -/
def Obligations.StepKeepsTheInvariants : Prop :=
  ∀ s t : State, s.Inv → step s = .next t → t.Inv

/-- R28, R168, R173: `TEMP`, where it holds a value, holds a value of the decoder, the conversion of a scaled word, and
every step keeps that. -/
def Obligations.StepKeepsTempADecoderValue : Prop :=
  ∀ s t : State, s.TempDecoded → step s = .next t → t.TempDecoded

/-! ### The data codes of the table -/

/-- R104, R106: the three family-code rows, presented alone at the code port (log 6): the multiplexer answers the row's
variant and nothing else changes. -/
def Obligations.FamilyRowsAnswerTheirVariant : Prop :=
  ∀ s : State,
    exec .family10 s = .next { s with unitOut := .variant .modelS } ∧
    exec .family28 s = .next { s with unitOut := .variant .modelB } ∧
    exec .family22 s = .next { s with unitOut := .variant .modelB }

/-- R80: the four configuration rows, presented alone at the code port (log 6), whatever bits 7 and 4:0 are: the active
resolution and the mask on `raw` are the row's, and nothing else changes. -/
def Obligations.ConfigurationRowsAnswerTheirResolution : Prop :=
  ∀ (s : State) (bit7 : BitVec 1) (low : BitVec 5),
    exec (.cfgRes9 bit7 low) s = .next { s with unitOut := .resolution 9#4 0xFFF8#16 } ∧
    exec (.cfgRes10 bit7 low) s = .next { s with unitOut := .resolution 10#4 0xFFFC#16 } ∧
    exec (.cfgRes11 bit7 low) s = .next { s with unitOut := .resolution 11#4 0xFFFE#16 } ∧
    exec (.cfgRes12 bit7 low) s = .next { s with unitOut := .resolution 12#4 0xFFFF#16 }

/-- R55, R58, R59, R79: the three bus-byte rows, presented alone at the code port (log 6): one transaction of the handle's
`sel`, with the row's widths; an OK answer to 0xBE goes to `SP`; 0x4E writes bytes 2 to 4 of `SP`, or free bytes where
`SP` holds no value (log 20). No register but `SP` changes. The transaction is issued whatever `PRESENT` is, which is the
model's choice for a lone byte (log 6). -/
def Obligations.BusRowsIssueTheirTransaction : Prop :=
  ∀ s : State,
    (∃ t, exec .busConvert s = .next t ∧ t.blk = s.blk ∧
      t.txns = [.txn s.blk.sel 0x44#8 [] 0 (match s.txnAnswer with | .fail => none | .ok _ => some [])]) ∧
    (s.txnAnswer = .fail → ∃ t, exec .busRead s = .next t ∧ t.blk = s.blk ∧
      t.txns = [.txn s.blk.sel 0xBE#8 [] 9 none]) ∧
    (∀ sp, s.txnAnswer = .ok sp → ∃ t, exec .busRead s = .next t ∧ t.blk = { s.blk with sp := some sp } ∧
      t.txns = [.txn s.blk.sel 0xBE#8 [] 9 (some sp.bytes)]) ∧
    (∀ sp, s.blk.sp = some sp → ∃ t, exec .busWrite s = .next t ∧ t.blk = s.blk ∧
      t.txns = [.txn s.blk.sel 0x4E#8 [sp.tripHigh, sp.tripLow, sp.config] 0
        (match s.txnAnswer with | .fail => none | .ok _ => some [])]) ∧
    (s.blk.sp = none → ∃ t th tl cfg, exec .busWrite s = .next t ∧ t.blk = s.blk ∧
      t.txns = [.txn s.blk.sel 0x4E#8 [th, tl, cfg] 0 (match s.txnAnswer with | .fail => none | .ok _ => some [])])

/-! ### What a host read shows -/

/-- R32 with the codes of R74 and R76: what a host read of each output shows, zero-extended to 64 bits (the record is the
model's, log 10), and that it changes nothing else. -/
def Obligations.HostReadShowsTheRegister : Prop :=
  ∀ s : State,
    s.look .present = .next { s with seen := some (.present, if s.blk.present then 1#64 else 0#64) } ∧
    (∀ v c, (v = .unsupported ∧ c = 0#64) ∨ (v = .modelS ∧ c = 1#64) ∨ (v = .modelB ∧ c = 2#64) ∨
        (v = .reserved ∧ c = 3#64) →
      s.blk.variant = v → s.look .variant = .next { s with seen := some (.variant, c) }) ∧
    s.look .addrValid = .next { s with seen := some (.addrValid, if s.blk.addr = none then 0#64 else 1#64) } ∧
    s.look .resValid = .next { s with seen := some (.resValid, if s.blk.res = none then 0#64 else 1#64) } ∧
    s.look .tempValid = .next { s with seen := some (.tempValid, if s.blk.temp = none then 0#64 else 1#64) } ∧
    (∀ a, s.blk.addr = some a → s.look .addr = .next { s with seen := some (.addr, a.toWord) }) ∧
    (∀ r, s.blk.res = some r → s.look .res = .next { s with seen := some (.res, BitVec.ofNat 64 r.toNat) }) ∧
    (∀ f, s.blk.temp = some f → s.look .temp = .next { s with seen := some (.temp, BitVec.ofNat 64 f.toNat) }) ∧
    s.look .result = .next { s with seen := some (.result, BitVec.ofNat 64 s.blk.result.toNat) } ∧
    (∀ st c, (st = .ok ∧ c = 0#64) ∨ (st = .notFound ∧ c = 1#64) ∨ (st = .integrityError ∧ c = 2#64) ∨
        (st = .unsupportedDevice ∧ c = 3#64) ∨ (st = .notPresent ∧ c = 4#64) ∨ (st = .transportError ∧ c = 5#64) ∨
        (st = .illegalCommand ∧ c = 6#64) ∨ (st = .illegalState ∧ c = 7#64) →
      s.blk.status = st → s.look .status = .next { s with seen := some (.status, c) })
end

