-- ==== Sys2Proof/Laws/Decode.lean ====
section
/-! SUPPORT. The fields of encoded words, one lemma per field. -/

namespace Sys2Proof

@[simp] theorem opField_append (hi b : Byte) : opField (hi ++ b) = hi.extractLsb' 4 4 := by
  unfold opField; ext i hi; simp; grind

@[simp] theorem zField_append (hi b : Byte) : zField (hi ++ b) = hi.extractLsb' 0 4 := by
  unfold zField; ext i hi; simp; grind

@[simp] theorem immField_append (hi b : Byte) : immField (hi ++ b) = b := by
  unfold immField; ext i hi; simp; grind

theorem configByte_bit7 (bit7 : BitVec 1) (f : BitVec 2) (low : BitVec 5) :
    (configByte bit7 f low).extractLsb' 7 1 = bit7 := by
  revert bit7 f low; decide

theorem configByte_field (bit7 : BitVec 1) (f : BitVec 2) (low : BitVec 5) :
    (configByte bit7 f low).extractLsb' 5 2 = f := by
  revert bit7 f low; decide

theorem configByte_low (bit7 : BitVec 1) (f : BitVec 2) (low : BitVec 5) :
    (configByte bit7 f low).extractLsb' 0 5 = low := by
  revert bit7 f low; decide

end Sys2Proof
end

