-- ==== Sys2Proof/Laws/State.lean ====
section
/-! SUPPORT. One simp lemma per field per update of a block's registers and of the state, so that no proof unfolds a record update. -/

namespace Sys2Proof.Machine

/-! ### Blocks -/

@[simp] theorem Block.setStatus_present (b : Block) (st : Status) :
    (b.setStatus st).present = b.present := rfl
@[simp] theorem Block.setStatus_variant (b : Block) (st : Status) :
    (b.setStatus st).variant = b.variant := rfl
@[simp] theorem Block.setStatus_addr (b : Block) (st : Status) :
    (b.setStatus st).addr = b.addr := rfl
@[simp] theorem Block.setStatus_sp (b : Block) (st : Status) :
    (b.setStatus st).sp = b.sp := rfl
@[simp] theorem Block.setStatus_res (b : Block) (st : Status) :
    (b.setStatus st).res = b.res := rfl
@[simp] theorem Block.setStatus_temp (b : Block) (st : Status) :
    (b.setStatus st).temp = b.temp := rfl
@[simp] theorem Block.setStatus_result (b : Block) (st : Status) :
    (b.setStatus st).result = b.result := rfl
@[simp] theorem Block.setStatus_status (b : Block) (st : Status) :
    (b.setStatus st).status = st := rfl
@[simp] theorem Block.setStatus_sel (b : Block) (st : Status) :
    (b.setStatus st).sel = b.sel := rfl
@[simp] theorem Block.setVariant_present (b : Block) (v : Variant) :
    (b.setVariant v).present = b.present := rfl
@[simp] theorem Block.setVariant_variant (b : Block) (v : Variant) :
    (b.setVariant v).variant = v := rfl
@[simp] theorem Block.setVariant_addr (b : Block) (v : Variant) :
    (b.setVariant v).addr = b.addr := rfl
@[simp] theorem Block.setVariant_sp (b : Block) (v : Variant) :
    (b.setVariant v).sp = b.sp := rfl
@[simp] theorem Block.setVariant_res (b : Block) (v : Variant) :
    (b.setVariant v).res = b.res := rfl
@[simp] theorem Block.setVariant_temp (b : Block) (v : Variant) :
    (b.setVariant v).temp = b.temp := rfl
@[simp] theorem Block.setVariant_result (b : Block) (v : Variant) :
    (b.setVariant v).result = b.result := rfl
@[simp] theorem Block.setVariant_status (b : Block) (v : Variant) :
    (b.setVariant v).status = b.status := rfl
@[simp] theorem Block.setVariant_sel (b : Block) (v : Variant) :
    (b.setVariant v).sel = b.sel := rfl
@[simp] theorem Block.identifiedAs_present (b : Block) (a : Address) (v : Variant) :
    (b.identifiedAs a v).present = true := rfl
@[simp] theorem Block.identifiedAs_variant (b : Block) (a : Address) (v : Variant) :
    (b.identifiedAs a v).variant = v := rfl
@[simp] theorem Block.identifiedAs_addr (b : Block) (a : Address) (v : Variant) :
    (b.identifiedAs a v).addr = some a := rfl
@[simp] theorem Block.identifiedAs_sp (b : Block) (a : Address) (v : Variant) :
    (b.identifiedAs a v).sp = b.sp := rfl
@[simp] theorem Block.identifiedAs_res (b : Block) (a : Address) (v : Variant) :
    (b.identifiedAs a v).res = b.res := rfl
@[simp] theorem Block.identifiedAs_temp (b : Block) (a : Address) (v : Variant) :
    (b.identifiedAs a v).temp = b.temp := rfl
@[simp] theorem Block.identifiedAs_result (b : Block) (a : Address) (v : Variant) :
    (b.identifiedAs a v).result = b.result := rfl
@[simp] theorem Block.identifiedAs_status (b : Block) (a : Address) (v : Variant) :
    (b.identifiedAs a v).status = b.status := rfl
@[simp] theorem Block.identifiedAs_sel (b : Block) (a : Address) (v : Variant) :
    (b.identifiedAs a v).sel = .matchAddr a := rfl
@[simp] theorem Block.assertedAs_present (b : Block) (v : Variant) :
    (b.assertedAs v).present = true := rfl
@[simp] theorem Block.assertedAs_variant (b : Block) (v : Variant) :
    (b.assertedAs v).variant = v := rfl
@[simp] theorem Block.assertedAs_addr (b : Block) (v : Variant) :
    (b.assertedAs v).addr = b.addr := rfl
@[simp] theorem Block.assertedAs_sp (b : Block) (v : Variant) :
    (b.assertedAs v).sp = b.sp := rfl
@[simp] theorem Block.assertedAs_res (b : Block) (v : Variant) :
    (b.assertedAs v).res = b.res := rfl
@[simp] theorem Block.assertedAs_temp (b : Block) (v : Variant) :
    (b.assertedAs v).temp = b.temp := rfl
@[simp] theorem Block.assertedAs_result (b : Block) (v : Variant) :
    (b.assertedAs v).result = b.result := rfl
@[simp] theorem Block.assertedAs_status (b : Block) (v : Variant) :
    (b.assertedAs v).status = b.status := rfl
@[simp] theorem Block.assertedAs_sel (b : Block) (v : Variant) :
    (b.assertedAs v).sel = b.sel := rfl
@[simp] theorem Block.setSp_present (b : Block) (x : Scratchpad) :
    (b.setSp x).present = b.present := rfl
@[simp] theorem Block.setSp_variant (b : Block) (x : Scratchpad) :
    (b.setSp x).variant = b.variant := rfl
@[simp] theorem Block.setSp_addr (b : Block) (x : Scratchpad) :
    (b.setSp x).addr = b.addr := rfl
@[simp] theorem Block.setSp_sp (b : Block) (x : Scratchpad) :
    (b.setSp x).sp = some x := rfl
@[simp] theorem Block.setSp_res (b : Block) (x : Scratchpad) :
    (b.setSp x).res = b.res := rfl
@[simp] theorem Block.setSp_temp (b : Block) (x : Scratchpad) :
    (b.setSp x).temp = b.temp := rfl
@[simp] theorem Block.setSp_result (b : Block) (x : Scratchpad) :
    (b.setSp x).result = b.result := rfl
@[simp] theorem Block.setSp_status (b : Block) (x : Scratchpad) :
    (b.setSp x).status = b.status := rfl
@[simp] theorem Block.setSp_sel (b : Block) (x : Scratchpad) :
    (b.setSp x).sel = b.sel := rfl
@[simp] theorem Block.setRes_present (b : Block) (r : BitVec 4) :
    (b.setRes r).present = b.present := rfl
@[simp] theorem Block.setRes_variant (b : Block) (r : BitVec 4) :
    (b.setRes r).variant = b.variant := rfl
@[simp] theorem Block.setRes_addr (b : Block) (r : BitVec 4) :
    (b.setRes r).addr = b.addr := rfl
@[simp] theorem Block.setRes_sp (b : Block) (r : BitVec 4) :
    (b.setRes r).sp = b.sp := rfl
@[simp] theorem Block.setRes_res (b : Block) (r : BitVec 4) :
    (b.setRes r).res = some r := rfl
@[simp] theorem Block.setRes_temp (b : Block) (r : BitVec 4) :
    (b.setRes r).temp = b.temp := rfl
@[simp] theorem Block.setRes_result (b : Block) (r : BitVec 4) :
    (b.setRes r).result = b.result := rfl
@[simp] theorem Block.setRes_status (b : Block) (r : BitVec 4) :
    (b.setRes r).status = b.status := rfl
@[simp] theorem Block.setRes_sel (b : Block) (r : BitVec 4) :
    (b.setRes r).sel = b.sel := rfl
@[simp] theorem Block.setResult_present (b : Block) (x : Float32Bits) :
    (b.setResult x).present = b.present := rfl
@[simp] theorem Block.setResult_variant (b : Block) (x : Float32Bits) :
    (b.setResult x).variant = b.variant := rfl
@[simp] theorem Block.setResult_addr (b : Block) (x : Float32Bits) :
    (b.setResult x).addr = b.addr := rfl
@[simp] theorem Block.setResult_sp (b : Block) (x : Float32Bits) :
    (b.setResult x).sp = b.sp := rfl
@[simp] theorem Block.setResult_res (b : Block) (x : Float32Bits) :
    (b.setResult x).res = b.res := rfl
@[simp] theorem Block.setResult_temp (b : Block) (x : Float32Bits) :
    (b.setResult x).temp = b.temp := rfl
@[simp] theorem Block.setResult_result (b : Block) (x : Float32Bits) :
    (b.setResult x).result = x := rfl
@[simp] theorem Block.setResult_status (b : Block) (x : Float32Bits) :
    (b.setResult x).status = b.status := rfl
@[simp] theorem Block.setResult_sel (b : Block) (x : Float32Bits) :
    (b.setResult x).sel = b.sel := rfl
@[simp] theorem Block.setTemp_present (b : Block) (f : Float32Bits) :
    (b.setTemp f).present = b.present := rfl
@[simp] theorem Block.setTemp_variant (b : Block) (f : Float32Bits) :
    (b.setTemp f).variant = b.variant := rfl
@[simp] theorem Block.setTemp_addr (b : Block) (f : Float32Bits) :
    (b.setTemp f).addr = b.addr := rfl
@[simp] theorem Block.setTemp_sp (b : Block) (f : Float32Bits) :
    (b.setTemp f).sp = b.sp := rfl
@[simp] theorem Block.setTemp_res (b : Block) (f : Float32Bits) :
    (b.setTemp f).res = b.res := rfl
@[simp] theorem Block.setTemp_temp (b : Block) (f : Float32Bits) :
    (b.setTemp f).temp = some f := rfl
@[simp] theorem Block.setTemp_result (b : Block) (f : Float32Bits) :
    (b.setTemp f).result = b.result := rfl
@[simp] theorem Block.setTemp_status (b : Block) (f : Float32Bits) :
    (b.setTemp f).status = b.status := rfl
@[simp] theorem Block.setTemp_sel (b : Block) (f : Float32Bits) :
    (b.setTemp f).sel = b.sel := rfl

/-! ### States -/

@[simp] theorem State.setBlk_blk (s : State) (b : Block) :
    (s.setBlk b).blk = b := rfl
@[simp] theorem State.setBlk_before (s : State) (b : Block) :
    (s.setBlk b).before = s.before := rfl
@[simp] theorem State.setBlk_after (s : State) (b : Block) :
    (s.setBlk b).after = s.after := rfl
@[simp] theorem State.setBlk_inputs (s : State) (b : Block) :
    (s.setBlk b).inputs = s.inputs := rfl
@[simp] theorem State.setBlk_searchAnswers (s : State) (b : Block) :
    (s.setBlk b).searchAnswers = s.searchAnswers := rfl
@[simp] theorem State.setBlk_txnAnswers (s : State) (b : Block) :
    (s.setBlk b).txnAnswers = s.txnAnswers := rfl
@[simp] theorem State.setBlk_draws (s : State) (b : Block) :
    (s.setBlk b).draws = s.draws := rfl
@[simp] theorem State.setBlk_txns (s : State) (b : Block) :
    (s.setBlk b).txns = s.txns := rfl
@[simp] theorem State.setBlk_unitOut (s : State) (b : Block) :
    (s.setBlk b).unitOut = s.unitOut := rfl
@[simp] theorem State.setBlk_seen (s : State) (b : Block) :
    (s.setBlk b).seen = s.seen := rfl
@[simp] theorem State.setBlk_searchAnswer (s : State) (b : Block) :
    (s.setBlk b).searchAnswer = s.searchAnswer := rfl
@[simp] theorem State.setBlk_txnAnswer (s : State) (b : Block) :
    (s.setBlk b).txnAnswer = s.txnAnswer := rfl
@[simp] theorem State.finish_blk (s : State) (st : Status) :
    (s.finish st).blk = s.blk.setStatus st := rfl
@[simp] theorem State.finish_before (s : State) (st : Status) :
    (s.finish st).before = s.before := rfl
@[simp] theorem State.finish_after (s : State) (st : Status) :
    (s.finish st).after = s.after := rfl
@[simp] theorem State.finish_inputs (s : State) (st : Status) :
    (s.finish st).inputs = s.inputs := rfl
@[simp] theorem State.finish_searchAnswers (s : State) (st : Status) :
    (s.finish st).searchAnswers = s.searchAnswers := rfl
@[simp] theorem State.finish_txnAnswers (s : State) (st : Status) :
    (s.finish st).txnAnswers = s.txnAnswers := rfl
@[simp] theorem State.finish_draws (s : State) (st : Status) :
    (s.finish st).draws = s.draws := rfl
@[simp] theorem State.finish_txns (s : State) (st : Status) :
    (s.finish st).txns = s.txns := rfl
@[simp] theorem State.finish_unitOut (s : State) (st : Status) :
    (s.finish st).unitOut = s.unitOut := rfl
@[simp] theorem State.finish_seen (s : State) (st : Status) :
    (s.finish st).seen = s.seen := rfl
@[simp] theorem State.finish_searchAnswer (s : State) (st : Status) :
    (s.finish st).searchAnswer = s.searchAnswer := rfl
@[simp] theorem State.finish_txnAnswer (s : State) (st : Status) :
    (s.finish st).txnAnswer = s.txnAnswer := rfl
@[simp] theorem State.begin_blk (s : State) :
    s.begin.blk = s.blk := rfl
@[simp] theorem State.begin_before (s : State) :
    s.begin.before = s.before := rfl
@[simp] theorem State.begin_after (s : State) :
    s.begin.after = s.after := rfl
@[simp] theorem State.begin_inputs (s : State) :
    s.begin.inputs = s.inputs := rfl
@[simp] theorem State.begin_searchAnswers (s : State) :
    s.begin.searchAnswers = s.searchAnswers := rfl
@[simp] theorem State.begin_txnAnswers (s : State) :
    s.begin.txnAnswers = s.txnAnswers := rfl
@[simp] theorem State.begin_draws (s : State) :
    s.begin.draws = s.draws := rfl
@[simp] theorem State.begin_txns (s : State) :
    s.begin.txns = [] := rfl
@[simp] theorem State.begin_unitOut (s : State) :
    s.begin.unitOut = s.unitOut := rfl
@[simp] theorem State.begin_seen (s : State) :
    s.begin.seen = s.seen := rfl
@[simp] theorem State.begin_searchAnswer (s : State) :
    s.begin.searchAnswer = s.searchAnswer := rfl
@[simp] theorem State.begin_txnAnswer (s : State) :
    s.begin.txnAnswer = s.txnAnswer := rfl
@[simp] theorem State.busSearch_blk (s : State) (first : Bool) :
    (s.busSearch first).blk = s.blk := rfl
@[simp] theorem State.busSearch_before (s : State) (first : Bool) :
    (s.busSearch first).before = s.before := rfl
@[simp] theorem State.busSearch_after (s : State) (first : Bool) :
    (s.busSearch first).after = s.after := rfl
@[simp] theorem State.busSearch_inputs (s : State) (first : Bool) :
    (s.busSearch first).inputs = s.inputs := rfl
@[simp] theorem State.busSearch_searchAnswers (s : State) (first : Bool) :
    (s.busSearch first).searchAnswers = s.searchAnswers.tail := rfl
@[simp] theorem State.busSearch_txnAnswers (s : State) (first : Bool) :
    (s.busSearch first).txnAnswers = s.txnAnswers := rfl
@[simp] theorem State.busSearch_draws (s : State) (first : Bool) :
    (s.busSearch first).draws = s.draws + 1 := rfl
@[simp] theorem State.busSearch_txns (s : State) (first : Bool) :
    (s.busSearch first).txns = s.txns ++ [.search first s.searchAnswer] := rfl
@[simp] theorem State.busSearch_unitOut (s : State) (first : Bool) :
    (s.busSearch first).unitOut = s.unitOut := rfl
@[simp] theorem State.busSearch_seen (s : State) (first : Bool) :
    (s.busSearch first).seen = s.seen := rfl
@[simp] theorem State.busTxn_blk (s : State) (c : Byte) (wd : List Byte) (n : Nat) :
    (s.busTxn c wd n).blk = s.blk := rfl
@[simp] theorem State.busTxn_before (s : State) (c : Byte) (wd : List Byte) (n : Nat) :
    (s.busTxn c wd n).before = s.before := rfl
@[simp] theorem State.busTxn_after (s : State) (c : Byte) (wd : List Byte) (n : Nat) :
    (s.busTxn c wd n).after = s.after := rfl
@[simp] theorem State.busTxn_inputs (s : State) (c : Byte) (wd : List Byte) (n : Nat) :
    (s.busTxn c wd n).inputs = s.inputs := rfl
@[simp] theorem State.busTxn_searchAnswers (s : State) (c : Byte) (wd : List Byte) (n : Nat) :
    (s.busTxn c wd n).searchAnswers = s.searchAnswers := rfl
@[simp] theorem State.busTxn_txnAnswers (s : State) (c : Byte) (wd : List Byte) (n : Nat) :
    (s.busTxn c wd n).txnAnswers = s.txnAnswers.tail := rfl
@[simp] theorem State.busTxn_draws (s : State) (c : Byte) (wd : List Byte) (n : Nat) :
    (s.busTxn c wd n).draws = s.draws + 1 := rfl
@[simp] theorem State.busTxn_txns (s : State) (c : Byte) (wd : List Byte) (n : Nat) :
    (s.busTxn c wd n).txns = s.txns ++ [.txn s.blk.sel c wd n (TxnAnswer.rdata n s.txnAnswer)] := rfl
@[simp] theorem State.busTxn_unitOut (s : State) (c : Byte) (wd : List Byte) (n : Nat) :
    (s.busTxn c wd n).unitOut = s.unitOut := rfl
@[simp] theorem State.busTxn_seen (s : State) (c : Byte) (wd : List Byte) (n : Nat) :
    (s.busTxn c wd n).seen = s.seen := rfl
@[simp] theorem State.startConversion_blk (s : State) :
    s.startConversion.blk = s.blk := rfl
@[simp] theorem State.startConversion_before (s : State) :
    s.startConversion.before = s.before := rfl
@[simp] theorem State.startConversion_after (s : State) :
    s.startConversion.after = s.after := rfl
@[simp] theorem State.startConversion_inputs (s : State) :
    s.startConversion.inputs = s.inputs := rfl
@[simp] theorem State.startConversion_searchAnswers (s : State) :
    s.startConversion.searchAnswers = s.searchAnswers := rfl
@[simp] theorem State.startConversion_txnAnswers (s : State) :
    s.startConversion.txnAnswers = s.txnAnswers.tail := rfl
@[simp] theorem State.startConversion_draws (s : State) :
    s.startConversion.draws = s.draws + 1 := rfl
@[simp] theorem State.startConversion_txns (s : State) :
    s.startConversion.txns = s.txns ++ [.txn s.blk.sel 0x44#8 [] 0 (TxnAnswer.rdata 0 s.txnAnswer)] := rfl
@[simp] theorem State.startConversion_unitOut (s : State) :
    s.startConversion.unitOut = s.unitOut := rfl
@[simp] theorem State.startConversion_seen (s : State) :
    s.startConversion.seen = s.seen := rfl
@[simp] theorem State.readScratchpad_blk (s : State) :
    s.readScratchpad.blk = s.blk := rfl
@[simp] theorem State.readScratchpad_before (s : State) :
    s.readScratchpad.before = s.before := rfl
@[simp] theorem State.readScratchpad_after (s : State) :
    s.readScratchpad.after = s.after := rfl
@[simp] theorem State.readScratchpad_inputs (s : State) :
    s.readScratchpad.inputs = s.inputs := rfl
@[simp] theorem State.readScratchpad_searchAnswers (s : State) :
    s.readScratchpad.searchAnswers = s.searchAnswers := rfl
@[simp] theorem State.readScratchpad_txnAnswers (s : State) :
    s.readScratchpad.txnAnswers = s.txnAnswers.tail := rfl
@[simp] theorem State.readScratchpad_draws (s : State) :
    s.readScratchpad.draws = s.draws + 1 := rfl
@[simp] theorem State.readScratchpad_txns (s : State) :
    s.readScratchpad.txns = s.txns ++ [.txn s.blk.sel 0xBE#8 [] 9 (TxnAnswer.rdata 9 s.txnAnswer)] := rfl
@[simp] theorem State.readScratchpad_unitOut (s : State) :
    s.readScratchpad.unitOut = s.unitOut := rfl
@[simp] theorem State.readScratchpad_seen (s : State) :
    s.readScratchpad.seen = s.seen := rfl
@[simp] theorem State.writeScratchpad_blk (s : State) (x : Scratchpad) :
    (s.writeScratchpad x).blk = s.blk := rfl
@[simp] theorem State.writeScratchpad_before (s : State) (x : Scratchpad) :
    (s.writeScratchpad x).before = s.before := rfl
@[simp] theorem State.writeScratchpad_after (s : State) (x : Scratchpad) :
    (s.writeScratchpad x).after = s.after := rfl
@[simp] theorem State.writeScratchpad_inputs (s : State) (x : Scratchpad) :
    (s.writeScratchpad x).inputs = s.inputs := rfl
@[simp] theorem State.writeScratchpad_searchAnswers (s : State) (x : Scratchpad) :
    (s.writeScratchpad x).searchAnswers = s.searchAnswers := rfl
@[simp] theorem State.writeScratchpad_txnAnswers (s : State) (x : Scratchpad) :
    (s.writeScratchpad x).txnAnswers = s.txnAnswers.tail := rfl
@[simp] theorem State.writeScratchpad_draws (s : State) (x : Scratchpad) :
    (s.writeScratchpad x).draws = s.draws + 1 := rfl
@[simp] theorem State.writeScratchpad_txns (s : State) (x : Scratchpad) :
    (s.writeScratchpad x).txns = s.txns ++ [.txn s.blk.sel 0x4E#8 [x.tripHigh, x.tripLow, x.config] 0 (TxnAnswer.rdata 0 s.txnAnswer)] := rfl
@[simp] theorem State.writeScratchpad_unitOut (s : State) (x : Scratchpad) :
    (s.writeScratchpad x).unitOut = s.unitOut := rfl
@[simp] theorem State.writeScratchpad_seen (s : State) (x : Scratchpad) :
    (s.writeScratchpad x).seen = s.seen := rfl
@[simp] theorem State.readFailed_blk (s : State) (st : Status) :
    (s.readFailed st).blk = (s.blk.setResult 0#32).setStatus st := rfl
@[simp] theorem State.readFailed_before (s : State) (st : Status) :
    (s.readFailed st).before = s.before := rfl
@[simp] theorem State.readFailed_after (s : State) (st : Status) :
    (s.readFailed st).after = s.after := rfl
@[simp] theorem State.readFailed_inputs (s : State) (st : Status) :
    (s.readFailed st).inputs = s.inputs := rfl
@[simp] theorem State.readFailed_searchAnswers (s : State) (st : Status) :
    (s.readFailed st).searchAnswers = s.searchAnswers := rfl
@[simp] theorem State.readFailed_txnAnswers (s : State) (st : Status) :
    (s.readFailed st).txnAnswers = s.txnAnswers := rfl
@[simp] theorem State.readFailed_draws (s : State) (st : Status) :
    (s.readFailed st).draws = s.draws := rfl
@[simp] theorem State.readFailed_txns (s : State) (st : Status) :
    (s.readFailed st).txns = s.txns := rfl
@[simp] theorem State.readFailed_unitOut (s : State) (st : Status) :
    (s.readFailed st).unitOut = s.unitOut := rfl
@[simp] theorem State.readFailed_seen (s : State) (st : Status) :
    (s.readFailed st).seen = s.seen := rfl
@[simp] theorem State.readFailed_searchAnswer (s : State) (st : Status) :
    (s.readFailed st).searchAnswer = s.searchAnswer := rfl
@[simp] theorem State.readFailed_txnAnswer (s : State) (st : Status) :
    (s.readFailed st).txnAnswer = s.txnAnswer := rfl
@[simp] theorem State.readDone_blk (s : State) (f : Float32Bits) :
    (s.readDone f).blk = ((s.blk.setResult f).setTemp f).setStatus .ok := rfl
@[simp] theorem State.readDone_before (s : State) (f : Float32Bits) :
    (s.readDone f).before = s.before := rfl
@[simp] theorem State.readDone_after (s : State) (f : Float32Bits) :
    (s.readDone f).after = s.after := rfl
@[simp] theorem State.readDone_inputs (s : State) (f : Float32Bits) :
    (s.readDone f).inputs = s.inputs := rfl
@[simp] theorem State.readDone_searchAnswers (s : State) (f : Float32Bits) :
    (s.readDone f).searchAnswers = s.searchAnswers := rfl
@[simp] theorem State.readDone_txnAnswers (s : State) (f : Float32Bits) :
    (s.readDone f).txnAnswers = s.txnAnswers := rfl
@[simp] theorem State.readDone_draws (s : State) (f : Float32Bits) :
    (s.readDone f).draws = s.draws := rfl
@[simp] theorem State.readDone_txns (s : State) (f : Float32Bits) :
    (s.readDone f).txns = s.txns := rfl
@[simp] theorem State.readDone_unitOut (s : State) (f : Float32Bits) :
    (s.readDone f).unitOut = s.unitOut := rfl
@[simp] theorem State.readDone_seen (s : State) (f : Float32Bits) :
    (s.readDone f).seen = s.seen := rfl
@[simp] theorem State.readDone_searchAnswer (s : State) (f : Float32Bits) :
    (s.readDone f).searchAnswer = s.searchAnswer := rfl
@[simp] theorem State.readDone_txnAnswer (s : State) (f : Float32Bits) :
    (s.readDone f).txnAnswer = s.txnAnswer := rfl
@[simp] theorem State.illegalWord_blk (s : State) :
    s.illegalWord.blk = s.blk.setStatus .illegalCommand := rfl
@[simp] theorem State.illegalWord_before (s : State) :
    s.illegalWord.before = s.before := rfl
@[simp] theorem State.illegalWord_after (s : State) :
    s.illegalWord.after = s.after := rfl
@[simp] theorem State.illegalWord_inputs (s : State) :
    s.illegalWord.inputs = s.inputs := rfl
@[simp] theorem State.illegalWord_searchAnswers (s : State) :
    s.illegalWord.searchAnswers = s.searchAnswers := rfl
@[simp] theorem State.illegalWord_txnAnswers (s : State) :
    s.illegalWord.txnAnswers = s.txnAnswers := rfl
@[simp] theorem State.illegalWord_draws (s : State) :
    s.illegalWord.draws = s.draws := rfl
@[simp] theorem State.illegalWord_txns (s : State) :
    s.illegalWord.txns = [] := rfl
@[simp] theorem State.illegalWord_unitOut (s : State) :
    s.illegalWord.unitOut = s.unitOut := rfl
@[simp] theorem State.illegalWord_seen (s : State) :
    s.illegalWord.seen = s.seen := rfl
@[simp] theorem State.illegalWord_searchAnswer (s : State) :
    s.illegalWord.searchAnswer = s.searchAnswer := rfl
@[simp] theorem State.illegalWord_txnAnswer (s : State) :
    s.illegalWord.txnAnswer = s.txnAnswer := rfl
@[simp] theorem State.driveMux_blk (s : State) (fc : Byte) :
    (s.driveMux fc).blk = s.blk := rfl
@[simp] theorem State.driveMux_before (s : State) (fc : Byte) :
    (s.driveMux fc).before = s.before := rfl
@[simp] theorem State.driveMux_after (s : State) (fc : Byte) :
    (s.driveMux fc).after = s.after := rfl
@[simp] theorem State.driveMux_inputs (s : State) (fc : Byte) :
    (s.driveMux fc).inputs = s.inputs := rfl
@[simp] theorem State.driveMux_searchAnswers (s : State) (fc : Byte) :
    (s.driveMux fc).searchAnswers = s.searchAnswers := rfl
@[simp] theorem State.driveMux_txnAnswers (s : State) (fc : Byte) :
    (s.driveMux fc).txnAnswers = s.txnAnswers := rfl
@[simp] theorem State.driveMux_draws (s : State) (fc : Byte) :
    (s.driveMux fc).draws = s.draws := rfl
@[simp] theorem State.driveMux_txns (s : State) (fc : Byte) :
    (s.driveMux fc).txns = s.txns := rfl
@[simp] theorem State.driveMux_unitOut (s : State) (fc : Byte) :
    (s.driveMux fc).unitOut = .variant (dispatch fc) := rfl
@[simp] theorem State.driveMux_seen (s : State) (fc : Byte) :
    (s.driveMux fc).seen = s.seen := rfl
@[simp] theorem State.driveMux_searchAnswer (s : State) (fc : Byte) :
    (s.driveMux fc).searchAnswer = s.searchAnswer := rfl
@[simp] theorem State.driveMux_txnAnswer (s : State) (fc : Byte) :
    (s.driveMux fc).txnAnswer = s.txnAnswer := rfl
@[simp] theorem State.driveConfig_blk (s : State) (c : Byte) :
    (s.driveConfig c).blk = s.blk := rfl
@[simp] theorem State.driveConfig_before (s : State) (c : Byte) :
    (s.driveConfig c).before = s.before := rfl
@[simp] theorem State.driveConfig_after (s : State) (c : Byte) :
    (s.driveConfig c).after = s.after := rfl
@[simp] theorem State.driveConfig_inputs (s : State) (c : Byte) :
    (s.driveConfig c).inputs = s.inputs := rfl
@[simp] theorem State.driveConfig_searchAnswers (s : State) (c : Byte) :
    (s.driveConfig c).searchAnswers = s.searchAnswers := rfl
@[simp] theorem State.driveConfig_txnAnswers (s : State) (c : Byte) :
    (s.driveConfig c).txnAnswers = s.txnAnswers := rfl
@[simp] theorem State.driveConfig_draws (s : State) (c : Byte) :
    (s.driveConfig c).draws = s.draws := rfl
@[simp] theorem State.driveConfig_txns (s : State) (c : Byte) :
    (s.driveConfig c).txns = s.txns := rfl
@[simp] theorem State.driveConfig_unitOut (s : State) (c : Byte) :
    (s.driveConfig c).unitOut = .resolution (activeResolution c) (activeMask c) := rfl
@[simp] theorem State.driveConfig_seen (s : State) (c : Byte) :
    (s.driveConfig c).seen = s.seen := rfl
@[simp] theorem State.driveConfig_searchAnswer (s : State) (c : Byte) :
    (s.driveConfig c).searchAnswer = s.searchAnswer := rfl
@[simp] theorem State.driveConfig_txnAnswer (s : State) (c : Byte) :
    (s.driveConfig c).txnAnswer = s.txnAnswer := rfl
@[simp] theorem State.rst_blk (s : State) :
    s.rst.blk = Block.reset := rfl
@[simp] theorem State.rst_before (s : State) :
    s.rst.before = s.before := rfl
@[simp] theorem State.rst_after (s : State) :
    s.rst.after = s.after := rfl
@[simp] theorem State.rst_inputs (s : State) :
    s.rst.inputs = s.inputs := rfl
@[simp] theorem State.rst_searchAnswers (s : State) :
    s.rst.searchAnswers = s.searchAnswers := rfl
@[simp] theorem State.rst_txnAnswers (s : State) :
    s.rst.txnAnswers = s.txnAnswers := rfl
@[simp] theorem State.rst_draws (s : State) :
    s.rst.draws = s.draws := rfl
@[simp] theorem State.rst_txns (s : State) :
    s.rst.txns = [] := rfl
@[simp] theorem State.rst_unitOut (s : State) :
    s.rst.unitOut = s.unitOut := rfl
@[simp] theorem State.rst_seen (s : State) :
    s.rst.seen = s.seen := rfl
@[simp] theorem State.rst_searchAnswer (s : State) :
    s.rst.searchAnswer = s.searchAnswer := rfl
@[simp] theorem State.rst_txnAnswer (s : State) :
    s.rst.txnAnswer = s.txnAnswer := rfl
@[simp] theorem State.construct_blk (s : State) :
    s.construct.blk = s.blk := rfl
@[simp] theorem State.construct_before (s : State) :
    s.construct.before = s.before := rfl
@[simp] theorem State.construct_after (s : State) :
    s.construct.after = s.after ++ [Block.reset] := rfl
@[simp] theorem State.construct_inputs (s : State) :
    s.construct.inputs = s.inputs := rfl
@[simp] theorem State.construct_searchAnswers (s : State) :
    s.construct.searchAnswers = s.searchAnswers := rfl
@[simp] theorem State.construct_txnAnswers (s : State) :
    s.construct.txnAnswers = s.txnAnswers := rfl
@[simp] theorem State.construct_draws (s : State) :
    s.construct.draws = s.draws := rfl
@[simp] theorem State.construct_txns (s : State) :
    s.construct.txns = s.txns := rfl
@[simp] theorem State.construct_unitOut (s : State) :
    s.construct.unitOut = s.unitOut := rfl
@[simp] theorem State.construct_seen (s : State) :
    s.construct.seen = s.seen := rfl
@[simp] theorem State.construct_searchAnswer (s : State) :
    s.construct.searchAnswer = s.searchAnswer := rfl
@[simp] theorem State.construct_txnAnswer (s : State) :
    s.construct.txnAnswer = s.txnAnswer := rfl

end Sys2Proof.Machine
end

