-- ==== Sys2Proof/Laws/Ops.lean ====
section
/-! SUPPORT. One lemma per shared operation and per meaning: everything it can do. Provers cite these instead of unfolding. -/

namespace Sys2Proof.Machine

/-! ### The transport's answers -/

@[simp] theorem rdata_fail (n : Nat) : TxnAnswer.rdata n .fail = none := rfl

@[simp] theorem rdata_ok_nine (sp : Scratchpad) : TxnAnswer.rdata 9 (.ok sp) = some sp.bytes := rfl

@[simp] theorem rdata_ok_zero (sp : Scratchpad) : TxnAnswer.rdata 0 (.ok sp) = some [] := rfl

theorem txnAnswer_cons (s : State) (a : TxnAnswer) (rest : List TxnAnswer) (h : s.txnAnswers = a :: rest) :
    s.txnAnswer = a := by simp [State.txnAnswer, h]

theorem searchAnswer_cons (s : State) (a : Option Address) (rest : List (Option Address))
    (h : s.searchAnswers = a :: rest) : s.searchAnswer = a := by simp [State.searchAnswer, h]

theorem sel_of_addr (b : Block) (a : Address) (h : b.addr = some a) : b.sel = .matchAddr a := by simp [Block.sel, h]

theorem sel_of_no_addr (b : Block) (h : b.addr = none) : b.sel = .skip := by simp [Block.sel, h]

/-! ### The decoder -/

theorem decodeTemp_modelS (sp : Scratchpad) : decodeTemp sp .modelS = some (toFloat (scale (rawS2 sp))) := rfl

theorem decodeTemp_modelB (sp : Scratchpad) : decodeTemp sp .modelB = some (toFloat (scale (rawB sp))) := rfl

theorem decodeTemp_isSome (sp : Scratchpad) (v : Variant) (h : v = .modelS ∨ v = .modelB) :
    ∃ w, decodeTemp sp v = some (toFloat w) := by
  rcases h with rfl | rfl
  · exact ⟨_, decodeTemp_modelS sp⟩
  · exact ⟨_, decodeTemp_modelB sp⟩

theorem decodeTemp_eq_some (sp : Scratchpad) (v : Variant) (f : Float32Bits) (h : decodeTemp sp v = some f) :
    (v = .modelS ∧ f = toFloat (scale (rawS2 sp))) ∨ (v = .modelB ∧ f = toFloat (scale (rawB sp))) := by
  cases v <;> simp_all [decodeTemp, refine]

/-! ### Ending a read -/

theorem reading_next (s t : State) (sp : Scratchpad) :
    s.reading sp = .next t ↔ ∃ f, decodeTemp sp s.blk.variant = some f ∧ t = s.readDone f := by
  unfold State.reading
  cases decodeTemp sp s.blk.variant <;> simp [eq_comm]

theorem reading_fault (s : State) (sp : Scratchpad) (h : decodeTemp sp s.blk.variant = none) :
    s.reading sp = .fault (.undecodableVariant s.blk.variant) := by simp [State.reading, h]

/-! ### Identification -/

theorem identifyAnswer_none (s : State) : s.identifyAnswer none = s.finish .notFound := rfl

theorem identifyAnswer_badCrc (s : State) (a : Address) (h : addrOK a = false) :
    s.identifyAnswer (some a) = s.finish .integrityError := by simp [State.identifyAnswer, h]

theorem identifyAnswer_unsupported (s : State) (a : Address) (h : addrOK a = true)
    (hd : dispatch a.family = .unsupported) :
    s.identifyAnswer (some a) = (s.setBlk (s.blk.setVariant .unsupported)).finish .unsupportedDevice := by
  simp [State.identifyAnswer, h, hd]

theorem identifyAnswer_supported (s : State) (a : Address) (h : addrOK a = true)
    (hd : dispatch a.family ≠ .unsupported) :
    s.identifyAnswer (some a) = (s.setBlk (s.blk.identifiedAs a (dispatch a.family))).finish .ok := by
  simp [State.identifyAnswer, h, hd]

theorem identify_present (s : State) (first : Bool) (h : s.blk.present = true) :
    s.identify first = s.begin.finish .illegalState := by simp [State.identify, h]

theorem identify_absent (s : State) (first : Bool) (h : s.blk.present = false) :
    s.identify first = (s.begin.busSearch first).identifyAnswer s.searchAnswer := by simp [State.identify, h]

theorem assertVariant_present (s : State) (v : Variant) (h : s.blk.present = true) :
    s.assertVariant v = s.begin.finish .illegalState := by simp [State.assertVariant, h]

theorem assertVariant_absent (s : State) (v : Variant) (h : s.blk.present = false) :
    s.assertVariant v = (s.begin.setBlk (s.blk.assertedAs v)).finish .ok := by simp [State.assertVariant, h]

theorem addrOK_iff (a : Address) : addrOK a = true ↔ Config.crc8 a.crcBytes = a.crc := by simp [addrOK]

theorem spOK_iff (sp : Scratchpad) : spOK sp = true ↔ Config.crc8 sp.crcBytes = sp.crc := by simp [spOK]

theorem dispatch_cases (fc : Byte) :
    (fc = 0x10#8 ∧ dispatch fc = .modelS) ∨ ((fc = 0x28#8 ∨ fc = 0x22#8) ∧ dispatch fc = .modelB) ∨
      (fc ≠ 0x10#8 ∧ fc ≠ 0x28#8 ∧ fc ≠ 0x22#8 ∧ dispatch fc = .unsupported) := by
  unfold dispatch
  split <;> rename_i h1
  · exact .inl ⟨h1, rfl⟩
  · split <;> rename_i h2
    · exact .inr (.inl ⟨.inl h2, rfl⟩)
    · split <;> rename_i h3
      · exact .inr (.inl ⟨.inr h3, rfl⟩)
      · exact .inr (.inr ⟨h1, h2, h3, rfl⟩)

/-! ### Resolution -/

theorem clampInt_range (n : Int) (v : Variant) : 9 ≤ clampInt n v ∧ clampInt n v ≤ 12 := by
  unfold clampInt; split <;> omega

theorem clamp_toNat (n : Int) (v : Variant) : ((clamp n v).toNat : Int) = clampInt n v := by
  have h := clampInt_range n v
  rw [clamp, BitVec.toNat_ofInt]
  omega

theorem writeBack_fail (s : State) (sp : Scratchpad) (r : BitVec 4)
    (h : s.txnAnswer = .fail) :
    s.writeBack sp r = ((s.setBlk (s.blk.setSp { sp with config := cfgCompute Config.cfgMerge sp.config r })).writeScratchpad
      { sp with config := cfgCompute Config.cfgMerge sp.config r }).finish .transportError := by
  simp [State.writeBack, h]

theorem writeBack_ok (s : State) (sp x : Scratchpad) (r : BitVec 4) (h : s.txnAnswer = .ok x) :
    s.writeBack sp r =
      (((s.setBlk (s.blk.setSp { sp with config := cfgCompute Config.cfgMerge sp.config r })).writeScratchpad
        { sp with config := cfgCompute Config.cfgMerge sp.config r }).setBlk
          ((s.blk.setSp { sp with config := cfgCompute Config.cfgMerge sp.config r }).setRes r)).finish .ok := by
  simp [State.writeBack, h]

/-! ### The meanings, by case -/

theorem execSetres_absent (n : Int) (s : State) (hp : s.blk.present = false) :
    execSetres n s = .next (s.begin.finish .notPresent) := by simp [execSetres, hp]

theorem execSetres_fail (n : Int) (s : State) (hp : s.blk.present = true) (ha : s.txnAnswer = .fail) :
    execSetres n s = .next (s.begin.readScratchpad.finish .transportError) := by simp [execSetres, hp, ha]

theorem execSetres_ok (n : Int) (s : State) (sp : Scratchpad) (hp : s.blk.present = true) (ha : s.txnAnswer = .ok sp) :
    execSetres n s = .next (s.begin.readScratchpad.writeBack sp (clamp n s.blk.variant)) := by simp [execSetres, hp, ha]

theorem execConvert_absent (s : State) (hp : s.blk.present = false) :
    execConvert s = .next (s.begin.finish .ok) := by simp [execConvert, hp]

theorem execConvert_fail (s : State) (hp : s.blk.present = true) (ha : s.txnAnswer = .fail) :
    execConvert s = .next (s.begin.startConversion.finish .transportError) := by simp [execConvert, hp, ha]

theorem execConvert_ok (s : State) (x : Scratchpad) (hp : s.blk.present = true) (ha : s.txnAnswer = .ok x) :
    execConvert s = .next (s.begin.startConversion.finish .ok) := by simp [execConvert, hp, ha]

theorem execRead_absent (s : State) (hp : s.blk.present = false) :
    execRead s = .next (s.begin.readFailed .notPresent) := by simp [execRead, hp]

theorem execRead_fail (s : State) (hp : s.blk.present = true) (ha : s.txnAnswer = .fail) :
    execRead s = .next (s.begin.readScratchpad.readFailed .transportError) := by simp [execRead, hp, ha]

theorem execRead_ok (s : State) (sp : Scratchpad) (hp : s.blk.present = true) (ha : s.txnAnswer = .ok sp) :
    execRead s = (s.fetched sp).reading sp := by simp [execRead, hp, ha]

theorem execReadc_absent (s : State) (hp : s.blk.present = false) :
    execReadc s = .next (s.begin.readFailed .notPresent) := by simp [execReadc, hp]

theorem execReadc_fail (s : State) (hp : s.blk.present = true) (ha : s.txnAnswer = .fail) :
    execReadc s = .next (s.begin.readScratchpad.readFailed .transportError) := by simp [execReadc, hp, ha]

theorem execReadc_badCrc (s : State) (sp : Scratchpad) (hp : s.blk.present = true) (ha : s.txnAnswer = .ok sp)
    (hc : spOK sp = false) : execReadc s = .next ((s.fetched sp).readFailed .integrityError) := by
  simp [execReadc, hp, ha, hc]

theorem execReadc_ok (s : State) (sp : Scratchpad) (hp : s.blk.present = true) (ha : s.txnAnswer = .ok sp)
    (hc : spOK sp = true) : execReadc s = (s.fetched sp).reading sp := by simp [execReadc, hp, ha, hc]

/-! ### The meanings, inverted -/

theorem execSetres_next (n : Int) (s t : State) (h : execSetres n s = .next t) :
    (s.blk.present = false ∧ t = s.begin.finish .notPresent) ∨
    (s.blk.present = true ∧ s.txnAnswer = .fail ∧ t = s.begin.readScratchpad.finish .transportError) ∨
    (s.blk.present = true ∧ ∃ sp, s.txnAnswer = .ok sp ∧
      t = s.begin.readScratchpad.writeBack sp (clamp n s.blk.variant)) := by
  unfold execSetres at h
  split at h
  · split at h <;> cases h <;> simp_all
  · cases h; simp_all

theorem execConvert_next (s t : State) (h : execConvert s = .next t) :
    (s.blk.present = false ∧ t = s.begin.finish .ok) ∨
    (s.blk.present = true ∧ s.txnAnswer = .fail ∧ t = s.begin.startConversion.finish .transportError) ∨
    (s.blk.present = true ∧ (∃ x, s.txnAnswer = .ok x) ∧ t = s.begin.startConversion.finish .ok) := by
  unfold execConvert at h
  split at h
  · split at h <;> cases h <;> simp_all
  · cases h; simp_all

theorem execRead_next (s t : State) (h : execRead s = .next t) :
    (s.blk.present = false ∧ t = s.begin.readFailed .notPresent) ∨
    (s.blk.present = true ∧ s.txnAnswer = .fail ∧ t = s.begin.readScratchpad.readFailed .transportError) ∨
    (s.blk.present = true ∧ ∃ sp f, s.txnAnswer = .ok sp ∧ decodeTemp sp s.blk.variant = some f ∧
      t = (s.fetched sp).readDone f) := by
  unfold execRead at h
  split at h
  · split at h
    · cases h; simp_all
    · obtain ⟨f, hf, rfl⟩ := (reading_next _ _ _).1 h
      exact .inr (.inr ⟨‹_›, _, f, ‹_›, hf, rfl⟩)
  · cases h; simp_all

theorem execReadc_next (s t : State) (h : execReadc s = .next t) :
    (s.blk.present = false ∧ t = s.begin.readFailed .notPresent) ∨
    (s.blk.present = true ∧ s.txnAnswer = .fail ∧ t = s.begin.readScratchpad.readFailed .transportError) ∨
    (s.blk.present = true ∧ ∃ sp, s.txnAnswer = .ok sp ∧ spOK sp = false ∧
      t = (s.fetched sp).readFailed .integrityError) ∨
    (s.blk.present = true ∧ ∃ sp f, s.txnAnswer = .ok sp ∧ spOK sp = true ∧ decodeTemp sp s.blk.variant = some f ∧
      t = (s.fetched sp).readDone f) := by
  unfold execReadc at h
  split at h
  · split at h
    · cases h; simp_all
    · split at h
      · obtain ⟨f, hf, rfl⟩ := (reading_next _ _ _).1 h
        exact .inr (.inr (.inr ⟨‹_›, _, f, ‹_›, ‹_›, hf, rfl⟩))
      · cases h; simp_all
  · cases h; simp_all

theorem execBusRead_next (s t : State) (h : execBusRead s = .next t) :
    (s.txnAnswer = .fail ∧ t = s.begin.readScratchpad) ∨
    (∃ sp, s.txnAnswer = .ok sp ∧ t = s.begin.readScratchpad.setBlk (s.blk.setSp sp)) := by
  unfold execBusRead at h
  split at h <;> cases h <;> simp_all

theorem execBusWrite_next (s t : State) (h : execBusWrite s = .next t) :
    t = s.begin.writeScratchpad s.spOrFree := by
  cases h
  rfl

theorem spOrFree_of_some (s : State) (sp : Scratchpad) (h : s.blk.sp = some sp) : s.spOrFree = sp := by
  simp [State.spOrFree, h]

theorem spOrFree_of_none (s : State) (h : s.blk.sp = none) : s.spOrFree = Config.freeScratchpad s.draws := by
  simp [State.spOrFree, h]

/-! ### Host actions and the step -/

theorem mem_handles (s : State) (b : Block) : b ∈ s.handles ↔ b ∈ s.before ∨ b = s.blk ∨ b ∈ s.after := by
  simp [State.handles]

theorem handles_split (l : List Block) (k : Nat) (b : Block) (h : l[k]? = some b) :
    l.take k ++ b :: l.drop (k + 1) = l := by
  obtain ⟨hk, rfl⟩ := List.getElem?_eq_some_iff.1 h
  rw [List.cons_getElem_drop_succ, List.take_append_drop]

theorem select_next (s t : State) (k : Nat) (h : s.select k = .next t) :
    t.handles = s.handles ∧ s.handles[k]? = some t.blk := by
  unfold State.select at h
  split at h <;> cases h
  rename_i b hb
  exact ⟨handles_split _ _ _ hb, hb⟩

theorem look_next (s t : State) (r : OutReg) (h : s.look r = .next t) :
    ∃ x, s.blk.output r = some x ∧ t = { s with seen := some (r, x) } := by
  unfold State.look at h
  split at h <;> cases h
  exact ⟨_, ‹_›, rfl⟩

theorem rejectWord_next (s t : State) (p : PortWord) (h : s.rejectWord p = .next t) :
    (∃ w, p = .command w ∧ t = s.illegalWord) ∨ (∃ b, p = .code .family b ∧ t = s.driveMux b) ∨
      (∃ b, p = .code .config b ∧ t = s.driveConfig b) := by
  rcases p with w | ⟨_ | _ | _, b⟩ <;> simp_all [State.rejectWord]

theorem runWord_instr (p : PortWord) (i : Instr) (s : State) (h : decode p = .instr i) : runWord p s = exec i s := by
  simp [runWord, h]

theorem runWord_reject (p : PortWord) (r : Reject) (s : State) (h : decode p = .reject r) :
    runWord p s = s.rejectWord p := by simp [runWord, h]

theorem step_cons (s : State) (x : HostInput) (rest : List HostInput) (h : s.inputs = x :: rest) :
    step s = runInput x { s with inputs := rest } := by simp [step, h]

theorem step_idle (s : State) (h : s.inputs = []) : step s = .next s := by simp [step, h]

end Sys2Proof.Machine
end

