-- ==== Sys2Proof/Laws/PerInstr.lean ====
section
/-! SUPPORT. Family `TableRow`: every instruction's encoding matches its row of spec/opcode_table.json under the row's mask. -/

namespace Sys2Proof.Laws.TableRow

/-- A row's match and mask, and the code space of a byte-wide row. -/
structure Row where
  space : Option CodeSpace
  value : Nat
  mask  : Nat

/-- The rows of spec/opcode_table.json, copied from the table. -/
def row : Instr → Row
  | .identifyFirst => ⟨none, 0x1001, 0xFFFF⟩
  | .identifyNext => ⟨none, 0x1000, 0xFFFF⟩
  | .assertS => ⟨none, 0x2001, 0xFFFF⟩
  | .assertB => ⟨none, 0x2002, 0xFFFF⟩
  | .isPresent => ⟨none, 0x3000, 0xFFFF⟩
  | .setres _ => ⟨none, 0x4000, 0xFF00⟩
  | .convert => ⟨none, 0x5000, 0xFFFF⟩
  | .read => ⟨none, 0x6000, 0xFFFF⟩
  | .readc => ⟨none, 0x7000, 0xFFFF⟩
  | .family10 => ⟨some .family, 0x10, 0xFF⟩
  | .family28 => ⟨some .family, 0x28, 0xFF⟩
  | .family22 => ⟨some .family, 0x22, 0xFF⟩
  | .cfgRes9 _ _ => ⟨some .config, 0x00, 0x60⟩
  | .cfgRes10 _ _ => ⟨some .config, 0x20, 0x60⟩
  | .cfgRes11 _ _ => ⟨some .config, 0x40, 0x60⟩
  | .cfgRes12 _ _ => ⟨some .config, 0x60, 0x60⟩
  | .busConvert => ⟨some .bus, 0x44, 0xFF⟩
  | .busRead => ⟨some .bus, 0xBE, 0xFF⟩
  | .busWrite => ⟨some .bus, 0x4E, 0xFF⟩

/-- The encoding stands in the row's space and has the row's bits under the row's mask. -/
def Statement (i : Instr) : Prop :=
  match encode i with
  | .command w => (row i).space = none ∧ w &&& BitVec.ofNat 16 (row i).mask = BitVec.ofNat 16 (row i).value
  | .code s b => (row i).space = some s ∧ b &&& BitVec.ofNat 8 (row i).mask = BitVec.ofNat 8 (row i).value

theorem identifyFirst : Statement .identifyFirst := ⟨rfl, rfl⟩

theorem identifyNext : Statement .identifyNext := ⟨rfl, rfl⟩

theorem assertS : Statement .assertS := ⟨rfl, rfl⟩

theorem assertB : Statement .assertB := ⟨rfl, rfl⟩

theorem isPresent : Statement .isPresent := ⟨rfl, rfl⟩

theorem append_masked (b : Byte) : (0x40#8 ++ b) &&& 0xFF00#16 = 0x4000#16 := by
  revert b; decide

theorem setres (n : Int) : Statement (.setres n) := ⟨rfl, append_masked _⟩

theorem convert : Statement .convert := ⟨rfl, rfl⟩

theorem read : Statement .read := ⟨rfl, rfl⟩

theorem readc : Statement .readc := ⟨rfl, rfl⟩

theorem family10 : Statement .family10 := ⟨rfl, rfl⟩

theorem family28 : Statement .family28 := ⟨rfl, rfl⟩

theorem family22 : Statement .family22 := ⟨rfl, rfl⟩

theorem configByte_masked (bit7 : BitVec 1) (f : BitVec 2) (low : BitVec 5) :
    configByte bit7 f low &&& 0x60#8 = f.setWidth 8 <<< 5 := by
  revert bit7 f low; decide

theorem cfgRes9 (bit7 : BitVec 1) (low : BitVec 5) : Statement (.cfgRes9 bit7 low) := ⟨rfl, configByte_masked _ _ _⟩

theorem cfgRes10 (bit7 : BitVec 1) (low : BitVec 5) : Statement (.cfgRes10 bit7 low) := ⟨rfl, configByte_masked _ _ _⟩

theorem cfgRes11 (bit7 : BitVec 1) (low : BitVec 5) : Statement (.cfgRes11 bit7 low) := ⟨rfl, configByte_masked _ _ _⟩

theorem cfgRes12 (bit7 : BitVec 1) (low : BitVec 5) : Statement (.cfgRes12 bit7 low) := ⟨rfl, configByte_masked _ _ _⟩

theorem busConvert : Statement .busConvert := ⟨rfl, rfl⟩

theorem busRead : Statement .busRead := ⟨rfl, rfl⟩

theorem busWrite : Statement .busWrite := ⟨rfl, rfl⟩

end Sys2Proof.Laws.TableRow
end

