-- ==== Sys2Proof/Tests/Slice0.lean ====
section
/-! SUPPORT. Tests: the smoke test of WellFormed, words written out from the spec's encodings, the test vectors of
spec/95_test_vectors.md (their ids stand in the comments), and a witness for the hypotheses of each statement. -/

namespace Sys2Proof.Tests

open Sys2Proof.Machine

/-! ### Helpers -/

/-- The block after a step, if there is a next state. -/
def blkOf : Host.Outcome State Fault Refusal → Option Block
  | .next t => some t.blk
  | .fault _ => none
  | .refused _ => none

/-- The transaction list after a step, if there is a next state. -/
def txnsOf : Host.Outcome State Fault Refusal → Option (List Exchange)
  | .next t => some t.txns
  | .fault _ => none
  | .refused _ => none

/-- The scratchpad of R223 and the vectors D4, S2: a ModelB part after power-on. -/
def powerOn : Scratchpad := ⟨0x50, 0x05, 0x4B, 0x46, 0x7F, 0xFF, 0x0C, 0x10, 0x1C⟩

/-- A present handle of a variant, with the transport's answers in hand: the state after ASSERT on a reset handle. -/
def presentWith (v : Variant) (answers : List TxnAnswer) : State :=
  { State.reset with blk := { Block.reset with present := true, variant := v }, txnAnswers := answers }

/-- A reset handle with the transport's next search answer in hand. -/
def searching (a : Option Address) : State := { State.reset with searchAnswers := [a] }

/-- The address of vector I5, with the CRC byte given. -/
def addr28 (crc : Byte) : Address := ⟨0x28, 0x11, 0x22, 0x33, 0x44, 0x55, 0x66, crc⟩

/-- The address of vectors I3 and I4, with the CRC byte given. -/
def addr01 (crc : Byte) : Address := ⟨0x01, 0x12, 0x34, 0x56, 0x78, 0x9A, 0x00, crc⟩

/-- The scratchpad of vector D8. -/
def padD8 : Scratchpad := ⟨0xAA, 0x00, 0x4B, 0x46, 0xFF, 0xFF, 0x0C, 0x10, 0x87⟩

/-- A scratchpad with a given raw word (low, high byte), byte 4, count remain and count per degree. -/
def pad (lo hi cfg cr cpc : Byte) : Scratchpad := ⟨lo, hi, 0x4B, 0x46, cfg, 0xFF, cr, cpc, 0x00⟩

/-! ### WellFormed refuses each ill-formed term (R72) -/

theorem test_setres_128_ill_formed : (Instr.setres 128).wellFormed = false := by decide

theorem test_setres_minus_129_ill_formed : (Instr.setres (-129)).wellFormed = false := by decide

theorem test_setres_bounds_well_formed :
    (Instr.setres 127).wellFormed = true ∧ (Instr.setres (-128)).wellFormed = true := by decide

/-! ### Words written out bit by bit: OP, Z, IMM8 (R70 to R73, L2.0) -/

theorem test_decode_identify :
    decode (.command 0b0001000000000001#16) = .instr .identifyFirst ∧
    decode (.command 0b0001000000000000#16) = .instr .identifyNext := by decide

theorem test_decode_assert :
    decode (.command 0b0010000000000001#16) = .instr .assertS ∧
    decode (.command 0b0010000000000010#16) = .instr .assertB := by decide

theorem test_decode_isPresent : decode (.command 0b0011000000000000#16) = .instr .isPresent := by decide

theorem test_decode_setres :
    decode (.command 0b0100000000001010#16) = .instr (.setres 10) ∧
    decode (.command 0b0100000010000000#16) = .instr (.setres (-128)) := by decide

theorem test_decode_convert_read_readc :
    decode (.command 0b0101000000000000#16) = .instr .convert ∧
    decode (.command 0b0110000000000000#16) = .instr .read ∧
    decode (.command 0b0111000000000000#16) = .instr .readc := by decide

theorem test_decode_rejects :
    decode (.command 0x1002#16) = .reject .operandBits ∧ decode (.command 0x2000#16) = .reject .badVariant ∧
    decode (.command 0x2003#16) = .reject .badVariant ∧ decode (.command 0x2005#16) = .reject .operandBits ∧
    decode (.command 0x3001#16) = .reject .operandBits ∧ decode (.command 0x7100#16) = .reject .reservedBits ∧
    decode (.command 0x0000#16) = .reject .badOp ∧ decode (.command 0x8000#16) = .reject .badOp ∧
    decode (.command 0xF0FF#16) = .reject .badOp := by decide

theorem test_decode_family_codes :
    decode (.code .family 0b00010000#8) = .instr .family10 ∧ decode (.code .family 0b00101000#8) = .instr .family28 ∧
    decode (.code .family 0b00100010#8) = .instr .family22 ∧
    decode (.code .family 0b00000001#8) = .reject .unlistedFamily := by decide

theorem test_decode_config_codes :
    decode (.code .config 0b00011111#8) = .instr (.cfgRes9 0 31) ∧
    decode (.code .config 0b10111111#8) = .instr (.cfgRes10 1 31) ∧
    decode (.code .config 0b01000001#8) = .instr (.cfgRes11 0 1) ∧
    decode (.code .config 0b01111111#8) = .instr (.cfgRes12 0 31) := by decide

theorem test_decode_bus_codes :
    decode (.code .bus 0b01000100#8) = .instr .busConvert ∧ decode (.code .bus 0b10111110#8) = .instr .busRead ∧
    decode (.code .bus 0b01001110#8) = .instr .busWrite ∧
    decode (.code .bus 0b11111111#8) = .reject .unlistedBusByte := by decide

/-- The match value of each byte-wide row of spec/opcode_table.json gives the row's own instruction (log 7). -/
theorem test_decodeTableWord_byte_rows :
    decodeTableWord 8 0x10 = some .family10 ∧ decodeTableWord 8 0x28 = some .family28 ∧
    decodeTableWord 8 0x22 = some .family22 ∧ decodeTableWord 8 0x00 = some (.cfgRes9 0 0) ∧
    decodeTableWord 8 0x20 = some (.cfgRes10 0 0) ∧ decodeTableWord 8 0x40 = some (.cfgRes11 0 0) ∧
    decodeTableWord 8 0x60 = some (.cfgRes12 0 0) ∧ decodeTableWord 8 0x44 = some .busConvert ∧
    decodeTableWord 8 0xBE = some .busRead ∧ decodeTableWord 8 0x4E = some .busWrite := by decide

theorem test_decodeTableWord_command_rows :
    decodeTableWord 16 0x1001 = some .identifyFirst ∧ decodeTableWord 16 0x4000 = some (.setres 0) ∧
    decodeTableWord 16 0x7000 = some .readc ∧ decodeTableWord 16 0x0000 = none := by decide

theorem test_withFetchWord_runs_first :
    blkOf (step (State.reset.withFetchWord 16 0x2002)) =
      some { Block.reset with present := true, variant := .modelB } := by decide

/-! ### Pure functions -/

/-- L2.1. -/
theorem test_dispatch :
    dispatch 0x10 = .modelS ∧ dispatch 0x28 = .modelB ∧ dispatch 0x22 = .modelB ∧ dispatch 0x00 = .unsupported ∧
    dispatch 0x01 = .unsupported ∧ dispatch 0x11 = .unsupported ∧ dispatch 0x20 = .unsupported ∧
    dispatch 0x29 = .unsupported ∧ dispatch 0x2A = .unsupported ∧ dispatch 0xFF = .unsupported := by decide

/-- L2.3, Clamp. -/
theorem test_clamp :
    clamp (-128) .modelB = 9 ∧ clamp 8 .modelB = 9 ∧ clamp 10 .modelB = 10 ∧ clamp 11 .modelB = 11 ∧
    clamp 12 .modelB = 12 ∧ clamp 127 .modelB = 12 ∧ clamp 127 .modelS = 9 ∧ clamp (-1) .modelS = 9 := by decide

/-- L2.3, CfgCompute, both columns. -/
theorem test_cfgCompute :
    cfgCompute .replace 0x7F 9 = 0x1F ∧ cfgCompute .replace 0x7F 10 = 0x3F ∧ cfgCompute .replace 0x1F 12 = 0x7F ∧
    cfgCompute .replace 0xFF 9 = 0x9F ∧ cfgCompute .replace 0x9F 11 = 0xDF ∧ cfgCompute .replace 0x60 10 = 0x20 ∧
    cfgCompute .or 0x7F 9 = 0x7F ∧ cfgCompute .or 0x60 10 = 0x60 ∧ cfgCompute .or 0xFF 9 = 0xFF := by decide

/-- L2.4 table B: B1, B2, B3, B4, B5, B6, B7, B19, B21. -/
theorem test_decode_modelB :
    decodeTemp powerOn .modelB = some 0x42AA0000 ∧ decodeTemp (pad 0x5E 0xFF 0x7F 0 0) .modelB = some 0xC1220000 ∧
    decodeTemp (pad 0x97 0x01 0x1F 0 0) .modelB = some 0x41C80000 ∧
    decodeTemp (pad 0x97 0x01 0x3F 0 0) .modelB = some 0x41CA0000 ∧
    decodeTemp (pad 0x97 0x01 0x5F 0 0) .modelB = some 0x41CB0000 ∧
    decodeTemp (pad 0x97 0x01 0x7F 0 0) .modelB = some 0x41CB8000 ∧
    decodeTemp (pad 0x97 0x01 0x9F 0 0) .modelB = some 0x41C80000 ∧
    decodeTemp (pad 0x00 0x08 0x7F 0 0) .modelB = some 0xC3000000 ∧
    decodeTemp (pad 0xFF 0x7F 0x7F 0 0) .modelB = some 0xBD800000 := by decide

/-- L2.4 table S: S-1, S-2, S-4, S-6, S-8, S-9, S-10, S-12, S-17, S-20. -/
theorem test_decode_modelS :
    decodeTemp (pad 0x14 0x00 0 0x05 0x10) .modelS = some 0x41270000 ∧
    decodeTemp (pad 0xA0 0x00 0 0x05 0x10) .modelS = some 0x42A0E000 ∧
    decodeTemp (pad 0xAA 0x00 0 0x00 0x10) .modelS = some 0x42AB8000 ∧
    decodeTemp (pad 0xAA 0x00 0 0x0C 0x0F) .modelS = some 0x42AA0000 ∧
    decodeTemp (pad 0xAB 0x00 0 0x0C 0x10) .modelS = some 0x42AA0000 ∧
    decodeTemp (pad 0xAB 0x00 0 0x0C 0x11) .modelS = some 0x42AB0000 ∧
    decodeTemp (pad 0x00 0x00 0 0x10 0x10) .modelS = some 0xBE800000 ∧
    decodeTemp (pad 0xFF 0xFF 0 0x0C 0x10) .modelS = some 0xBF800000 ∧
    decodeTemp (pad 0x00 0x00 0 0xFF 0x10) .modelS = some 0xC1730000 ∧
    decodeTemp (pad 0x00 0x20 0 0x0C 0x00) .modelS = some 0x00000000 := by decide

/-- L2.4 table F. -/
theorem test_toFloat :
    toFloat 0x0000 = 0x00000000 ∧ toFloat 0x0001 = 0x3B800000 ∧ toFloat 0x00FF = 0x3F7F0000 ∧
    toFloat 0x0100 = 0x3F800000 ∧ toFloat 0x7FFF = 0x42FFFE00 ∧ toFloat 0x8000 = 0xC3000000 ∧
    toFloat 0x8001 = 0xC2FFFE00 ∧ toFloat 0xFFFF = 0xBB800000 ∧ toFloat 0xFF00 = 0xBF800000 := by decide

/-- R83, R84. -/
theorem test_assemble :
    assemble (.identify none) = some 0x1001 ∧ assemble (.setres 10) = some 0x400A ∧
    assemble (.setres (-1)) = some 0x40FF ∧ assemble (.setres 128) = none := by decide

/-- R83, the spelling of a line. -/
theorem test_asmText : asmText (.setres (-5)) = "SETRES #-5" ∧ asmText (.word 0x400A) = ".word 0x400A" := by decide

/-! ### Commands on small states -/

/-- I1. -/
theorem test_identify_notFound :
    blkOf (exec .identifyFirst (searching none)) = some { Block.reset with status := .notFound } ∧
    txnsOf (exec .identifyFirst (searching none)) = some [.search true none] := by decide

/-- I5, for any CRC function that gives the byte 0x56 as the vector's does. -/
theorem test_identify_modelB (h : Config.crc8 [0x28, 0x11, 0x22, 0x33, 0x44, 0x55, 0x66] = 0x56) :
    blkOf (exec .identifyFirst (searching (some (addr28 0x56)))) =
      some { Block.reset with present := true, variant := .modelB, addr := some (addr28 0x56) } := by
  have hc : addrOK (addr28 0x56) = true := (addrOK_iff _).2 h
  have hd : dispatch (addr28 0x56).family ≠ .unsupported := by decide
  show some (State.identify _ true).blk = _
  rw [identify_absent _ _ rfl, searchAnswer_cons _ (some (addr28 0x56)) [] rfl, identifyAnswer_supported _ _ hc hd]
  rfl

/-- I9 and I11. -/
theorem test_assertS :
    blkOf (exec .assertS State.reset) = some { Block.reset with present := true, variant := .modelS } ∧
    blkOf (exec .assertS (presentWith .modelB [])) =
      some { (presentWith .modelB []).blk with status := .illegalState } := by decide

/-- I10. -/
theorem test_assertB :
    blkOf (exec .assertB State.reset) = some { Block.reset with present := true, variant := .modelB } := by decide

/-- I12 and I13. -/
theorem test_isPresent :
    (blkOf (exec .isPresent State.reset)).map Block.result = some 0x00000000 ∧
    (blkOf (exec .isPresent (presentWith .modelS []))).map Block.result = some 0x00000001 := by decide

/-- S2. -/
theorem test_setres_ok :
    (blkOf (exec (.setres 10) (presentWith .modelB [.ok powerOn, .ok powerOn]))).map Block.res = some (some 10) ∧
    txnsOf (exec (.setres 10) (presentWith .modelB [.ok powerOn, .ok powerOn])) =
      some [.txn .skip 0xBE [] 9 (some powerOn.bytes), .txn .skip 0x4E [0x4B, 0x46, 0x3F] 0 (some [])] := by decide

/-- S7. -/
theorem test_setres_write_fails :
    blkOf (exec (.setres 11) (presentWith .modelB [.ok powerOn, .fail])) =
      some { (presentWith .modelB []).blk with
        sp := some { powerOn with config := 0x5F }, status := .transportError } := by decide

/-- V2 and V1. -/
theorem test_convert :
    txnsOf (exec .convert (presentWith .modelB [.ok powerOn])) = some [.txn .skip 0x44 [] 0 (some [])] ∧
    txnsOf (exec .convert State.reset) = some [] ∧
    (blkOf (exec .convert State.reset)).map Block.status = some .ok := by decide

/-- D4. -/
theorem test_read_ok :
    blkOf (exec .read (presentWith .modelB [.ok powerOn])) =
      some { (presentWith .modelB []).blk with
        sp := some powerOn, result := 0x42AA0000, temp := some 0x42AA0000 } := by decide

/-- D1 and D3. -/
theorem test_read_fails :
    (blkOf (exec .read State.reset)).map Block.status = some .notPresent ∧
    (blkOf (exec .read (presentWith .modelB [.fail]))).map Block.status = some .transportError := by decide

/-- D8, with the CRC byte of the vector. -/
theorem test_readc_ok (h : Config.crc8 [0xAA, 0x00, 0x4B, 0x46, 0xFF, 0xFF, 0x0C, 0x10] = 0x87) :
    (blkOf (exec .readc (presentWith .modelS [.ok padD8]))).map Block.temp = some (some 0x42AA0000) := by
  have hn : exec .readc (presentWith .modelS [.ok padD8]) = .next _ :=
    (execReadc_ok _ padD8 rfl rfl ((spOK_iff padD8).2 h)).trans
      ((reading_next _ _ _).2 ⟨0x42AA0000, (by decide : decodeTemp padD8 .modelS = some 0x42AA0000), rfl⟩)
  rw [hn]
  rfl

/-- D5: on a wrong CRC byte `TEMP` keeps what it held. -/
theorem test_readc_integrity (c : Byte) (h : Config.crc8 [0x5E, 0xFF, 0x4B, 0x46, 0x7F, 0xFF, 0x02, 0x10] ≠ c) (s : State)
    (hp : s.blk.present = true) (ha : s.txnAnswer = .ok ⟨0x5E, 0xFF, 0x4B, 0x46, 0x7F, 0xFF, 0x02, 0x10, c⟩) :
    (blkOf (exec .readc s)).map Block.temp = some s.blk.temp := by
  have hc : spOK ⟨0x5E, 0xFF, 0x4B, 0x46, 0x7F, 0xFF, 0x02, 0x10, c⟩ = false := by simpa [spOK, Scratchpad.crcBytes] using h
  show (blkOf (execReadc s)).map _ = _
  rw [execReadc_badCrc _ _ hp ha hc]
  rfl

/-- L2.0, last line, and P3 row 3. -/
theorem test_illegal_word :
    blkOf (step (State.reset.withFetchWord 16 0x0000)) = some { Block.reset with status := .illegalCommand } := by decide

/-! ### The data codes alone -/

theorem test_family10 : exec .family10 State.reset = .next { State.reset with unitOut := .variant .modelS } := rfl

theorem test_cfgRes10_ignores_other_bits :
    exec (.cfgRes10 1 0) State.reset = .next { State.reset with unitOut := .resolution 10 0xFFFC } := rfl

/-- The write code sends bytes 2, 3 and 4 of `SP` (R55). -/
theorem test_busWrite :
    txnsOf (exec .busWrite { presentWith .modelB [.ok powerOn] with
      blk := { (presentWith .modelB []).blk with sp := some powerOn } }) =
      some [.txn .skip 0x4E [0x4B, 0x46, 0x7F] 0 (some [])] := by decide

/-! ### Host actions -/

/-- P2's two handles: a second handle is constructed and selected, and the first keeps its registers. -/
theorem test_construct_then_select :
    (match (presentWith .modelB []).construct.select 1 with
      | .next t => some (t.before, t.blk)
      | .fault _ => none
      | .refused _ => none) = some ([(presentWith .modelB []).blk], Block.reset) := by decide

theorem test_rst_leaves_other_handles :
    (State.rst { presentWith .modelB [] with before := [(presentWith .modelS []).blk] }).handles =
      [(presentWith .modelS []).blk, Block.reset] := by decide

theorem test_look_temp_without_value : State.look State.reset .temp = .fault (.noValue .temp) := rfl

/-- Byte 0 of `ADDR` is the low byte of the register (R52). -/
theorem test_addr_register : (addr28 0x56).toWord = 0x5666554433221128 := by decide

/-! ### Witnesses: each theorem shows that the hypotheses of the named statement can be met together, clause by clause -/

/-- DecodeOfEncodeIsTheInstruction and DecodedWordIsTheEncoding, at the bounds of the operand. -/
theorem witness_wellFormed : (Instr.setres (-128)).wellFormed = true ∧
    decode (.command 0x4080#16) = .instr (.setres (-128)) := by decide

/-- IllegalWordWritesOnlyStatus: a word of each ground of R73. -/
theorem witness_illegal : IllegalWord 0x0000 ∧ IllegalWord 0x8000 ∧ IllegalWord 0x7100 ∧ IllegalWord 0x1002 ∧
    IllegalWord 0x2000 ∧ IllegalWord 0x2003 ∧ IllegalWord 0x6001 := by
  refine ⟨?_, ?_, ?_, ?_, ?_, ?_, ?_⟩ <;> unfold IllegalWord <;> decide

/-- RejectedWordsAreTheIllegalOnes, second clause: legal words at the edges of the grounds. -/
theorem witness_legal : ¬ IllegalWord 0x7000 ∧ ¬ IllegalWord 0x1001 ∧ ¬ IllegalWord 0x2002 ∧ ¬ IllegalWord 0x40FF := by
  refine ⟨?_, ?_, ?_, ?_⟩ <;> unfold IllegalWord <;> decide

/-- StepRunsTheDecodedInstruction: a word, a selection, a host read, and nothing pending. -/
theorem witness_step : ({ State.reset with inputs := [.select 0] } : State).inputs = .select 0 :: [] ∧
    ({ State.reset with inputs := [.look .temp] } : State).inputs = .look .temp :: [] ∧ State.reset.inputs = [] ∧ (State.reset.withFetchWord 16 0x6000).inputs = .word (.command 0x6000#16) :: [] ∧
    decode (.command 0x6000#16) = .instr .read := by decide

/-- ResetEventsGiveTheResetTable, both clauses. -/
theorem witness_reset_events : ({ State.reset with inputs := [.rst] } : State).inputs = .rst :: [] ∧
    ({ State.reset with inputs := [.construct] } : State).inputs = .construct :: [] := by decide

/-- SelectingKeepsEveryHandle, both clauses at the boundary. -/
theorem witness_select : 0 < State.reset.handles.length ∧ State.reset.handles.length ≤ 1 := by decide

/-- HostReadFaultsExactlyWithoutAValue: a register without a value, and one with. -/
theorem witness_look : Block.addrValid State.reset.blk = false ∧ Block.resValid State.reset.blk = false ∧
    Block.tempValid State.reset.blk = false ∧ Block.tempValid { Block.reset with temp := some 0 } = true := by decide

/-- IdentifyInItsFiveOutcomes: present; no address; wrong CRC; right CRC with an unsupported code; right CRC with each
supported code. The CRC byte is what the CRC function gives. -/
theorem witness_identify :
    (presentWith .modelS []).blk.present = true ∧
    ((searching none).blk.present = false ∧ (searching none).searchAnswer = none) ∧
    (∃ a, (searching (some a)).searchAnswer = some a ∧ Config.crc8 a.crcBytes ≠ a.crc) ∧
    (∃ a, (searching (some a)).searchAnswer = some a ∧ Config.crc8 a.crcBytes = a.crc ∧ a.family ≠ 0x10 ∧
      a.family ≠ 0x28 ∧ a.family ≠ 0x22) ∧
    (∀ f, f = 0x10 ∨ f = 0x28 ∨ f = 0x22 →
      ∃ a, (searching (some a)).searchAnswer = some a ∧ Config.crc8 a.crcBytes = a.crc ∧ a.family = f) := by
  refine ⟨rfl, ⟨rfl, rfl⟩, ⟨addr28 (Config.crc8 (addr28 0).crcBytes + 1), rfl, ?_⟩,
    ⟨addr01 (Config.crc8 (addr01 0).crcBytes), rfl, rfl, by decide, by decide, by decide⟩, fun f _ => ?_⟩
  · intro h
    have h' : Config.crc8 (addr28 0).crcBytes = Config.crc8 (addr28 0).crcBytes + 1 := h
    bv_omega
  · exact ⟨⟨f, 0, 0, 0, 0, 0, 0, Config.crc8 [f, 0, 0, 0, 0, 0, 0]⟩, rfl, rfl, rfl⟩

/-- The reset block meets the invariants: FailedIdentifyWritesOnlyStatus, EveryCommandEndsWithAStatus and
StepKeepsTheInvariants. -/
theorem witness_reset_block_inv : Block.reset.Inv :=
  ⟨by decide, by simp [Block.reset], by decide, by simp [Block.reset], by simp [Block.reset]⟩

/-- A present block that meets the invariants. -/
theorem witness_present_block_inv : (presentWith .modelB []).blk.Inv :=
  ⟨by decide, by simp [presentWith, Block.reset], by decide, by simp [presentWith, Block.reset], by decide⟩

/-- FailedIdentifyWritesOnlyStatus: an IDENTIFY that ends NOT_FOUND. -/
theorem witness_failed_identify : ∃ t, exec .identifyFirst (searching none) = .next t ∧ t.blk.status ≠ .ok :=
  ⟨_, rfl, by decide⟩

/-- AssertSetsVariantAndPresence, IsPresentCopiesPresence, IdentityIsFixedWhilePresent: an absent and a
present handle. -/
theorem witness_absent_and_present :
    State.reset.blk.present = false ∧ (presentWith .modelS []).blk.present = true := by decide

/-- PresenceComesOnlyFromIdentifyOrAssert: a step that changes `PRESENT`. -/
theorem witness_presence_changes :
    ∃ t, exec .assertS State.reset = .next t ∧ t.blk.present ≠ State.reset.blk.present := ⟨_, rfl, by decide⟩

/-- ConfigurationByteKeepsTheOtherBits: both ends of the range. -/
theorem witness_resolution_range : 9 ≤ (9#4).toNat ∧ (9#4).toNat ≤ 12 ∧ 9 ≤ (12#4).toNat ∧ (12#4).toNat ≤ 12 := by decide

/-- SetresInItsFourOutcomes: the resolution of the request; the read fails; the write fails; the write is answered OK. -/
theorem witness_setres :
    (((9#4).toNat : Int) = if (presentWith .modelS []).blk.variant = .modelS then 9 else min 12 (max 9 12)) ∧
    (presentWith .modelB [.fail]).txnAnswer = .fail ∧
    ((presentWith .modelB [.ok powerOn, .fail]).txnAnswer = .ok powerOn ∧
      (presentWith .modelB [.ok powerOn, .fail]).readScratchpad.txnAnswer = .fail) ∧
    (presentWith .modelB [.ok powerOn, .ok powerOn]).readScratchpad.txnAnswer = .ok powerOn := by decide

/-- ReadAfterSetresMasksTheRequestedBits: SETRES #10, then a READ that fetches what was written. -/
theorem witness_setres_then_read :
    ∃ t u, exec (.setres 10) (presentWith .modelB [.ok powerOn, .ok powerOn, .ok { powerOn with config := 0x3F }]) = .next t ∧
      t.blk.status = .ok ∧ exec .read t = .next u ∧ t.txnAnswer = .ok { powerOn with config := 0x3F } ∧
      deviceStable none none (t.txns ++ u.txns) :=
  ⟨_, _, rfl, by decide, rfl, by decide, by
    refine ⟨by simp, by simp, ?_⟩
    refine ⟨by simp, ?_, trivial⟩
    rintro x hx
    cases hx
    rfl⟩

/-- HostWaitsTheLatencyOfRes. -/
theorem witness_host_wait : ({ Block.reset with res := some 9 } : Block).res = some 9 ∧ Block.reset.resValid = false := by
  decide

/-- ConvertInItsThreeOutcomes and BusRowsIssueTheirTransaction: a handle answered FAIL and one answered OK. -/
theorem witness_answers : (presentWith .modelB [.fail]).txnAnswer = .fail ∧
    (presentWith .modelB [.ok powerOn]).txnAnswer = .ok powerOn := by decide

/-- BusRowsIssueTheirTransaction: `SP` with and without a value. -/
theorem witness_sp : ({ Block.reset with sp := some powerOn } : Block).sp = some powerOn ∧ Block.reset.sp = none := by decide

/-- ModelSDecodesByTheCountRemainFormula and ModelBDecodesByTheActiveResolution: the operands of S-1 and B3. -/
theorem witness_decode_operands :
    ((0x0014 : Int) = ((pad 0x14 0 0 5 0x10).tempLow.toNat : Int) + 256 * (pad 0x14 0 0 5 0x10).tempHigh.toNat) ∧
    (3 = 3 - (pad 0x97 0x01 0x1F 0 0).config.toNat / 32 % 4) ∧
    (0 = 3 - (pad 0x97 0x01 0x7F 0 0).config.toNat / 32 % 4) := by decide

/-- DecoderReadsOnlyTheDefinedBits: two different scratchpads that agree on the defined bits, for each clause. -/
theorem witness_defined_bits :
    ((pad 0x97 0x01 0x1F 0 0).config.toNat / 32 % 4 = (pad 0x90 0x01 0x9F 1 1).config.toNat / 32 % 4 ∧
      (raw0 (pad 0x97 0x01 0x1F 0 0)).toNat / 2 ^ 3 = (raw0 (pad 0x90 0x01 0x9F 1 1)).toNat / 2 ^ 3) ∧
    ((pad 0x97 0x01 0 7 0x11).tempLow = (pad 0x97 0x01 1 8 0x11).tempLow ∧
      (pad 0x97 0x01 0 7 0x11).countPerC = (pad 0x97 0x01 1 8 0x11).countPerC ∧
      (pad 0x97 0x01 0 7 0x11).countPerC ≠ 0x10) := by decide

/-- DecoderGivesSixteenthsOfADegree: both ends of each range. -/
theorem witness_sixteenths :
    (rawB (pad 0x00 0xF8 0x7F 0 0)).toInt = -2048 ∧ (rawB (pad 0xFF 0x07 0x7F 0 0)).toInt = 2047 ∧
    (rawS2 (pad 0x00 0xFF 0 0x0C 0x10)).toInt = -2048 ∧ (raw0 (pad 0x00 0xFF 0 0 0)).toInt = -256 ∧
    (raw0 (pad 0xFF 0x00 0 0 0)).toInt = 255 := by decide

/-- DecodingAnUnknownVariantFaults: both variants, and a scratchpad whose CRC is right. -/
theorem witness_unknown_variant :
    ((presentWith .unsupported [.ok powerOn]).blk.present = true ∧
      (presentWith .unsupported [.ok powerOn]).txnAnswer = .ok powerOn ∧
      (presentWith .reserved [.ok powerOn]).blk.variant = .reserved) ∧
    ∃ sp : Scratchpad, Config.crc8 sp.crcBytes = sp.crc :=
  ⟨by decide, { powerOn with crc := Config.crc8 powerOn.crcBytes }, rfl⟩

/-- ReadInItsThreeOutcomes, ReadcInItsFourOutcomes and ReadAndReadcDifferOnlyInTheCheck: a fetch with a right and one with a wrong
CRC, each on a present handle. -/
theorem witness_fetch_crc :
    (∃ sp, (presentWith .modelB [.ok sp]).txnAnswer = .ok sp ∧ Config.crc8 (sp.bytes.take 8) = sp.crc) ∧
    (∃ sp, (presentWith .modelS [.ok sp]).txnAnswer = .ok sp ∧ Config.crc8 (sp.bytes.take 8) ≠ sp.crc) ∧
    (presentWith .modelS [.fail]).txnAnswer = .fail := by
  refine ⟨⟨{ powerOn with crc := Config.crc8 powerOn.crcBytes }, rfl, rfl⟩,
    ⟨{ powerOn with crc := Config.crc8 powerOn.crcBytes + 1 }, rfl, ?_⟩, rfl⟩
  intro h
  have h' : Config.crc8 powerOn.crcBytes = Config.crc8 powerOn.crcBytes + 1 := h
  bv_omega

/-- ReadAndReadcDifferOnlyInTheCheck, second clause: a READC that ends TRANSPORT_ERROR. -/
theorem witness_readc_not_integrity :
    ∃ t, exec .readc (presentWith .modelB [.fail]) = .next t ∧ t.blk.status ≠ .integrityError := ⟨_, rfl, by decide⟩

/-- RepeatedReadGivesTheSameTemperature: E8. -/
theorem witness_repeated_read :
    ∃ t u, exec .read (presentWith .modelB [.ok powerOn, .ok powerOn]) = .next t ∧ t.blk.status = .ok ∧
      exec .read t = .next u ∧ u.blk.status = .ok ∧ deviceStable none none (t.txns ++ u.txns) :=
  ⟨_, _, rfl, by decide, rfl, by decide, by
    refine ⟨by simp, by simp, ?_⟩
    refine ⟨?_, by simp, trivial⟩
    rintro x hx
    cases hx
    rfl⟩

/-- BusTransactionsNeedAPresentHandle: an absent handle whose command issues a search. -/
theorem witness_absent_search :
    ∃ t, exec .identifyNext (searching none) = .next t ∧ (searching none).blk.present = false ∧ t.txns ≠ [] :=
  ⟨_, rfl, rfl, by decide⟩

/-- CommandsIssueOnlyTheirBusBytes, TransactionsHaveTheWidthsOfTheTable and EachRequestTakesTheNextAnswer: a command with two transactions, on a handle with
an address and on one without. -/
theorem witness_two_transactions :
    (∃ t, exec (.setres 9) (presentWith .modelB [.ok powerOn, .ok powerOn]) = .next t ∧
      Exchange.txn .skip 0x4E [0x4B, 0x46, 0x1F] 0 (some []) ∈ t.txns) ∧
    (presentWith .modelB []).blk.addrValid = false ∧
    ({ (presentWith .modelB []).blk with addr := some (addr28 0x56) } : Block).addrValid = true :=
  ⟨⟨_, rfl, by decide⟩, by decide, by decide⟩

/-- TempIsWrittenOnlyByAGoodRead and ResultIsWrittenByReadsAndIsPresent: a READ that ends OK and one that does not. -/
theorem witness_temp_written :
    (∃ t, exec .read (presentWith .modelB [.ok powerOn]) = .next t ∧ t.blk.temp ≠ none ∧ t.blk.status = .ok) ∧
    (∃ t, exec .read State.reset = .next t ∧ t.blk.status ≠ .ok) := ⟨⟨_, rfl, by decide, by decide⟩, _, rfl, by decide⟩

/-- CommandsReadOnlyTheIdentity: two blocks that agree on the identity and differ elsewhere, and a fault. -/
theorem witness_identity_agrees :
    (({ Block.reset with result := 1, res := some 9 } : Block).present = Block.reset.present ∧
      ({ Block.reset with result := 1, res := some 9 } : Block) ≠ Block.reset) ∧
    exec .read (presentWith .unsupported [.ok powerOn]) = .fault (.undecodableVariant .unsupported) :=
  ⟨by decide, rfl⟩

/-- StepKeepsTheInvariants and StepKeepsTempADecoderValue: a state that meets both and has a next step. -/
theorem witness_step_invariants :
    State.Inv (State.reset.withFetchWord 16 0x2002) ∧ State.TempDecoded (State.reset.withFetchWord 16 0x2002) ∧
    ∃ t, step (State.reset.withFetchWord 16 0x2002) = .next t := by
  refine ⟨?_, ?_, _, rfl⟩ <;> intro b hb
  · obtain rfl : b = Block.reset := by simpa [State.handles, State.withFetchWord, State.reset] using hb
    exact witness_reset_block_inv
  · obtain rfl : b = Block.reset := by simpa [State.handles, State.withFetchWord, State.reset] using hb
    simp [Block.reset]

/-- HostReadShowsTheRegister: a block that holds an address, a resolution and a temperature, with a code from each end. -/
theorem witness_host_read_shows :
    (∃ b : Block, b.addr = some (addr28 0x56) ∧ b.res = some 12 ∧ b.temp = some 0x42AA0000 ∧ b.variant = .reserved ∧
      b.status = .illegalState) ∧
    Block.reset.variant = .unsupported ∧ Block.reset.status = .ok :=
  ⟨⟨⟨true, .reserved, some (addr28 0x56), none, some 12, some 0x42AA0000, 0, .illegalState⟩, rfl, rfl, rfl, rfl, rfl⟩,
    rfl, rfl⟩

/-- InstructionsLeaveOtherHandlesAlone and EachRequestTakesTheNextAnswer: a bus byte and a family code that go on. -/
theorem witness_codes_next :
    (∃ t, exec .busWrite (presentWith .modelB [.fail]) = .next t ∧ t.txns.length = 1) ∧
    (∃ t, exec .family22 State.reset = .next t ∧ Instr.family22.isCommand = false) := ⟨⟨_, rfl, rfl⟩, _, rfl, rfl⟩

/-- A host read of STATUS shows the code of R76. -/
theorem test_look_status :
    State.look { State.reset with blk := { Block.reset with status := .illegalState } } .status =
      .next { State.reset with blk := { Block.reset with status := .illegalState }, seen := some (.status, 7) } := rfl

end Sys2Proof.Tests
end

section
/-! PROOFS. What the host's actions do: the reset events, host reads, and the step that takes an action off the queue. -/

namespace Sys2Proof.Machine

/-! ### Host reads -/

theorem look_some {s : State} {r : OutReg} {x : BitVec 64} (h : s.blk.output r = some x) :
    s.look r = .next { s with seen := some (r, x) } := by simp [State.look, h]

theorem look_none {s : State} {r : OutReg} (h : s.blk.output r = none) : s.look r = .fault (.noValue r) := by
  simp [State.look, h]

/-- R34: the outputs without a value are those whose valid bit is 0, and `SP`. -/
theorem output_eq_none_iff (b : Block) (r : OutReg) :
    b.output r = none ↔ (r = .addr ∧ b.addrValid = false) ∨ (r = .res ∧ b.resValid = false) ∨
      (r = .temp ∧ b.tempValid = false) ∨ r = .sp := by
  cases r <;> simp [Block.output, Block.addrValid, Block.resValid, Block.tempValid]

theorem ofBool_setWidth (c : Bool) : (BitVec.ofBool c).setWidth 64 = if c then 1#64 else 0#64 := by
  cases c <;> rfl

/-- A valid bit as a host read shows it. -/
theorem isSome_setWidth {α : Type} [DecidableEq α] (o : Option α) :
    (BitVec.ofBool o.isSome).setWidth 64 = if o = none then 0#64 else 1#64 := by
  cases o <;> simp

/-! ### Settled -/

/-- Settles O7, by the laws of the step for each kind of action. -/
theorem stepRunsTheDecodedInstruction : Obligations.StepRunsTheDecodedInstruction := by
  unfold Obligations.StepRunsTheDecodedInstruction
  refine fun s rest => ⟨fun p hs => ⟨step_cons s _ rest hs, fun i hi => ?_⟩, fun k hs => step_cons s _ rest hs,
    fun r hs => step_cons s _ rest hs, step_idle s⟩
  calc step s = runWord p { s with inputs := rest } := step_cons s _ rest hs
    _ = exec i { s with inputs := rest } := runWord_instr p i _ hi

/-- Settles O9: the next states are those of `State.rst` and `State.construct`. -/
theorem resetEventsGiveTheResetTable : Obligations.ResetEventsGiveTheResetTable := by
  unfold Obligations.ResetEventsGiveTheResetTable
  refine fun s rest => ⟨fun hs => ?_, fun hs => ?_⟩
  · exact ⟨State.rst { s with inputs := rest }, step_cons s _ rest hs, rfl, rfl, rfl, rfl, rfl, rfl, rfl, rfl, rfl, rfl,
      rfl, rfl, rfl, rfl, rfl, rfl, rfl⟩
  · have happend : (State.construct { s with inputs := rest }).handles = s.handles ++ [Block.reset] := by
      simp [State.handles]
    exact ⟨State.construct { s with inputs := rest }, Block.reset, step_cons s _ rest hs, happend, rfl, rfl, rfl, rfl, rfl⟩

/-- Settles O11, from the outputs that hold no value. -/
theorem hostReadFaultsExactlyWithoutAValue : Obligations.HostReadFaultsExactlyWithoutAValue := by
  unfold Obligations.HostReadFaultsExactlyWithoutAValue
  intro s r
  rw [← output_eq_none_iff]
  refine ⟨look_none, fun hne => ?_⟩
  obtain ⟨x, hx⟩ := Option.ne_none_iff_exists'.1 hne
  exact ⟨_, x, look_some hx, hx, rfl, rfl, rfl⟩

/-- Settles O51: each read is `look_some` at the register's output. -/
theorem hostReadShowsTheRegister : Obligations.HostReadShowsTheRegister := by
  unfold Obligations.HostReadShowsTheRegister
  intro s
  refine ⟨look_some ?present, ?variant, look_some ?addrValid, look_some ?resValid, look_some ?tempValid,
    fun a ha => look_some ?addr, fun r hr => look_some ?res, fun f hf => look_some ?temp, look_some ?result, ?status⟩
  case present => exact congrArg some (ofBool_setWidth _)
  case variant =>
    rintro v c (⟨rfl, rfl⟩ | ⟨rfl, rfl⟩ | ⟨rfl, rfl⟩ | ⟨rfl, rfl⟩) hv <;>
      exact look_some (by simp [Block.output, hv, Variant.code])
  case addrValid => exact congrArg some (isSome_setWidth _)
  case resValid => exact congrArg some (isSome_setWidth _)
  case tempValid => exact congrArg some (isSome_setWidth _)
  case addr => simp [Block.output, ha]
  case res => simp [Block.output, hr]
  case temp => simp [Block.output, hf]
  case result => simp [Block.output]
  case status =>
    rintro st c (⟨rfl, rfl⟩ | ⟨rfl, rfl⟩ | ⟨rfl, rfl⟩ | ⟨rfl, rfl⟩ | ⟨rfl, rfl⟩ | ⟨rfl, rfl⟩ | ⟨rfl, rfl⟩ |
      ⟨rfl, rfl⟩) hst <;>
      exact look_some (by simp [Block.output, hst, Status.code])

end Sys2Proof.Machine
end

section
/-! PROOFS. What an instruction can leave in the selected handle's registers, said once (`exec_blockAfter`), and what follows for
`TEMP`, `RESULT` and `PRESENT`. -/

namespace Sys2Proof.Machine

/-- The instructions that write `RESULT` (R29). -/
def WritesResult (i : Instr) : Prop := i = .read ∨ i = .readc ∨ i = .isPresent

/-- The registers that instruction `i` can leave in the handle selected in `s`, one constructor per way to end. -/
inductive BlockAfter (s : State) : Instr → Block → Prop where
  /-- A data code that writes no register. -/
  | kept (i : Instr) (hi : i.isCommand = false) : BlockAfter s i s.blk
  /-- The lone bus byte 0xBE, answered `OK`. -/
  | busFetched (sp : Scratchpad) : BlockAfter s .busRead (s.blk.setSp sp)
  /-- A command that writes nothing but its status. -/
  | statusOnly (i : Instr) (hi : ¬ WritesResult i) (st : Status) : BlockAfter s i (s.blk.setStatus st)
  /-- IDENTIFY with a checked address of an unsupported family (R110). -/
  | unsupported (i : Instr) (hi : i = .identifyFirst ∨ i = .identifyNext) (hp : s.blk.present = false) :
      BlockAfter s i ((s.blk.setVariant .unsupported).setStatus .unsupportedDevice)
  /-- IDENTIFY with a checked address of a supported family (R110). -/
  | identified (i : Instr) (hi : i = .identifyFirst ∨ i = .identifyNext) (hp : s.blk.present = false) (a : Address)
      (hc : addrOK a = true) (hd : dispatch a.family ≠ .unsupported) :
      BlockAfter s i ((s.blk.identifiedAs a (dispatch a.family)).setStatus .ok)
  /-- ASSERT on an absent handle (R116). -/
  | asserted (i : Instr) (v : Variant) (hi : i = .assertS ∧ v = .modelS ∨ i = .assertB ∧ v = .modelB)
      (hp : s.blk.present = false) : BlockAfter s i ((s.blk.assertedAs v).setStatus .ok)
  /-- ISPRESENT (R120). -/
  | presenceCopied :
      BlockAfter s .isPresent ((s.blk.setResult ((BitVec.ofBool s.blk.present).setWidth 32)).setStatus .ok)
  /-- SETRES whose write was answered `FAIL` (R137). -/
  | writeFailed (n : Int) (sp : Scratchpad) : BlockAfter s (.setres n) ((s.blk.setSp sp).setStatus .transportError)
  /-- SETRES that ends OK (R137). -/
  | resolutionSet (n : Int) (sp : Scratchpad) (hp : s.blk.present = true) :
      BlockAfter s (.setres n) (((s.blk.setSp sp).setRes (clamp n s.blk.variant)).setStatus .ok)
  /-- READ or READC that fetched nothing (R180, R181). -/
  | notFetched (i : Instr) (hi : i = .read ∨ i = .readc) (st : Status) (hst : st ≠ .ok) :
      BlockAfter s i ((s.blk.setResult 0#32).setStatus st)
  /-- READC whose bytes fail the integrity check (R188). -/
  | badCrc (sp : Scratchpad) : BlockAfter s .readc (((s.blk.setSp sp).setResult 0#32).setStatus .integrityError)
  /-- READ or READC that ends OK (R182). -/
  | temperatureRead (i : Instr) (hi : i = .read ∨ i = .readc) (hp : s.blk.present = true) (sp : Scratchpad)
      (ha : s.txnAnswer = .ok sp) (f : Float32Bits) (hf : decodeTemp sp s.blk.variant = some f) :
      BlockAfter s i ((((s.blk.setSp sp).setResult f).setTemp f).setStatus .ok)

/-! ### Each instruction ends in one of these ways -/

theorem identify_blockAfter (s : State) (first : Bool) (i : Instr) (hi : i = .identifyFirst ∨ i = .identifyNext) :
    BlockAfter s i (s.identify first).blk := by
  have hr : ¬ WritesResult i := by rcases hi with rfl | rfl <;> simp [WritesResult]
  cases hp : s.blk.present with
  | true =>
    rw [identify_present s first hp]
    exact .statusOnly i hr .illegalState
  | false =>
    rw [identify_absent s first hp]
    cases s.searchAnswer with
    | none => exact .statusOnly i hr .notFound
    | some a =>
      cases hc : addrOK a with
      | false =>
        rw [identifyAnswer_badCrc _ a hc]
        exact .statusOnly i hr .integrityError
      | true =>
        by_cases hd : dispatch a.family = .unsupported
        · rw [identifyAnswer_unsupported _ a hc hd]
          exact .unsupported i hi hp
        · rw [identifyAnswer_supported _ a hc hd]
          exact .identified i hi hp a hc hd

theorem assertVariant_blockAfter (s : State) (i : Instr) (v : Variant)
    (hi : i = .assertS ∧ v = .modelS ∨ i = .assertB ∧ v = .modelB) : BlockAfter s i (s.assertVariant v).blk := by
  cases hp : s.blk.present with
  | true =>
    rw [assertVariant_present s v hp]
    exact .statusOnly i (by rcases hi with ⟨rfl, -⟩ | ⟨rfl, -⟩ <;> simp [WritesResult]) .illegalState
  | false =>
    rw [assertVariant_absent s v hp]
    exact .asserted i v hi hp

theorem execSetres_blockAfter {n : Int} {s t : State} (h : execSetres n s = .next t) :
    BlockAfter s (.setres n) t.blk := by
  have hr : ¬ WritesResult (.setres n) := by simp [WritesResult]
  obtain ⟨-, rfl⟩ | ⟨-, -, rfl⟩ | ⟨hp, sp, -, rfl⟩ := execSetres_next n s t h
  · exact .statusOnly _ hr .notPresent
  · exact .statusOnly _ hr .transportError
  · cases hw : s.begin.readScratchpad.txnAnswer with
    | fail =>
      rw [writeBack_fail _ sp _ hw]
      exact .writeFailed n _
    | ok x =>
      rw [writeBack_ok _ sp x _ hw]
      exact .resolutionSet n _ hp

theorem execConvert_blockAfter {s t : State} (h : execConvert s = .next t) : BlockAfter s .convert t.blk := by
  have hr : ¬ WritesResult .convert := by simp [WritesResult]
  obtain ⟨-, rfl⟩ | ⟨-, -, rfl⟩ | ⟨-, -, rfl⟩ := execConvert_next s t h
  · exact .statusOnly _ hr .ok
  · exact .statusOnly _ hr .transportError
  · exact .statusOnly _ hr .ok

theorem execRead_blockAfter {s t : State} (h : execRead s = .next t) : BlockAfter s .read t.blk := by
  obtain ⟨-, rfl⟩ | ⟨-, -, rfl⟩ | ⟨hp, sp, f, ha, hf, rfl⟩ := execRead_next s t h
  · exact .notFetched _ (.inl rfl) .notPresent (by decide)
  · exact .notFetched _ (.inl rfl) .transportError (by decide)
  · exact .temperatureRead _ (.inl rfl) hp sp ha f hf

theorem execReadc_blockAfter {s t : State} (h : execReadc s = .next t) : BlockAfter s .readc t.blk := by
  obtain ⟨-, rfl⟩ | ⟨-, -, rfl⟩ | ⟨-, sp, -, -, rfl⟩ | ⟨hp, sp, f, ha, -, hf, rfl⟩ := execReadc_next s t h
  · exact .notFetched _ (.inr rfl) .notPresent (by decide)
  · exact .notFetched _ (.inr rfl) .transportError (by decide)
  · exact .badCrc sp
  · exact .temperatureRead _ (.inr rfl) hp sp ha f hf

theorem execBusRead_blockAfter {s t : State} (h : execBusRead s = .next t) : BlockAfter s .busRead t.blk := by
  obtain ⟨-, rfl⟩ | ⟨sp, -, rfl⟩ := execBusRead_next s t h
  · exact .kept _ rfl
  · exact .busFetched sp

/-- Every instruction that ends in a next state leaves the selected handle's registers in one of these ways. -/
theorem exec_blockAfter {i : Instr} {s t : State} (h : exec i s = .next t) : BlockAfter s i t.blk := by
  cases i with
  | identifyFirst => cases h; exact identify_blockAfter s true _ (.inl rfl)
  | identifyNext => cases h; exact identify_blockAfter s false _ (.inr rfl)
  | assertS => cases h; exact assertVariant_blockAfter s _ .modelS (.inl ⟨rfl, rfl⟩)
  | assertB => cases h; exact assertVariant_blockAfter s _ .modelB (.inr ⟨rfl, rfl⟩)
  | isPresent => cases h; exact .presenceCopied
  | setres n => exact execSetres_blockAfter h
  | convert => exact execConvert_blockAfter h
  | read => exact execRead_blockAfter h
  | readc => exact execReadc_blockAfter h
  | busRead => exact execBusRead_blockAfter h
  | family10 | family28 | family22 | cfgRes9 | cfgRes10 | cfgRes11 | cfgRes12 | busConvert | busWrite =>
    cases h; exact .kept _ rfl

/-! ### The registers, one at a time -/

theorem writesResult_of_read {i : Instr} (hi : i = .read ∨ i = .readc) : WritesResult i :=
  hi.elim .inl fun h => .inr (.inl h)

theorem not_writesResult_of_code {i : Instr} (h : i.isCommand = false) : ¬ WritesResult i := by
  rintro (rfl | rfl | rfl) <;> cases h

/-- R29: an instruction that is none of READ, READC and ISPRESENT keeps `RESULT`. -/
theorem BlockAfter.result_eq {s : State} {i : Instr} {b : Block} (h : BlockAfter s i b) (hi : ¬ WritesResult i) :
    b.result = s.blk.result := by
  cases h with
  | presenceCopied | badCrc => simp [WritesResult] at hi
  | notFetched i hr | temperatureRead i hr => exact absurd (writesResult_of_read hr) hi
  | _ => rfl

/-- R28, R29: how READ and READC end. -/
theorem BlockAfter.of_read {s : State} {i : Instr} {b : Block} (h : BlockAfter s i b) (hi : i = .read ∨ i = .readc) :
    (b.status ≠ .ok ∧ b.result = 0#32 ∧ b.temp = s.blk.temp) ∨
    (b.status = .ok ∧ b.temp = some b.result ∧
      ∃ sp, s.txnAnswer = .ok sp ∧ decodeTemp sp s.blk.variant = some b.result) := by
  cases h with
  | notFetched _ _ st hst => exact .inl ⟨hst, rfl, rfl⟩
  | badCrc => exact .inl ⟨by simp, rfl, rfl⟩
  | temperatureRead _ _ _ sp ha f hf => exact .inr ⟨rfl, rfl, sp, ha, hf⟩
  | kept i hc => exact absurd (writesResult_of_read hi) (not_writesResult_of_code hc)
  | statusOnly i hn => exact absurd (writesResult_of_read hi) hn
  | unsupported i hid | identified i hid => rcases hid with rfl | rfl <;> simp at hi
  | asserted i v hav => rcases hav with ⟨rfl, -⟩ | ⟨rfl, -⟩ <;> simp at hi
  | busFetched | presenceCopied | writeFailed | resolutionSet => simp at hi

/-- R28: only READ and READC write `TEMP`. -/
theorem BlockAfter.temp_eq {s : State} {i : Instr} {b : Block} (h : BlockAfter s i b) (hi : ¬ (i = .read ∨ i = .readc)) :
    b.temp = s.blk.temp := by
  cases h with
  | temperatureRead i hr => exact absurd hr hi
  | _ => rfl

/-! ### Settled -/

/-- Settles O17: of the ways to end, two write `PRESENT`. -/
theorem presenceComesOnlyFromIdentifyOrAssert : Obligations.PresenceComesOnlyFromIdentifyOrAssert := by
  unfold Obligations.PresenceComesOnlyFromIdentifyOrAssert
  intro i s t h hne
  have hb := exec_blockAfter h
  generalize t.blk = b at hb hne ⊢
  cases hb with
  | identified i hi hp a hc hd =>
    exact ⟨hp, rfl, rfl, .inr (.inr ⟨hi, a, rfl, (addrOK_iff a).1 hc, rfl, hd⟩)⟩
  | asserted i v hi hp => exact ⟨hp, rfl, rfl, hi.elim .inl fun h => .inr (.inl h)⟩
  | _ => exact absurd rfl hne

/-- Settles O40, by the two ways a read can end. -/
theorem tempIsWrittenOnlyByAGoodRead : Obligations.TempIsWrittenOnlyByAGoodRead := by
  unfold Obligations.TempIsWrittenOnlyByAGoodRead
  intro i s t h
  have hb := exec_blockAfter h
  by_cases hi : i = .read ∨ i = .readc
  · obtain ⟨hst, -, hkept⟩ | ⟨hst, htemp, -⟩ := hb.of_read hi
    · exact ⟨fun hne => absurd hkept hne, fun _ hok => absurd hok hst⟩
    · exact ⟨fun _ => ⟨hi, hst⟩, fun _ _ => ⟨by simp [Block.tempValid, htemp], htemp⟩⟩
  · exact ⟨fun hne => absurd (hb.temp_eq hi) hne, fun h => absurd h hi⟩

/-- Settles O41, by the two ways a read can end and the frame of `RESULT`. -/
theorem resultIsWrittenByReadsAndIsPresent : Obligations.ResultIsWrittenByReadsAndIsPresent := by
  unfold Obligations.ResultIsWrittenByReadsAndIsPresent
  intro i s t h
  have hb := exec_blockAfter h
  refine ⟨fun hi hst => ?_, fun hi hst => ?_, ?_, fun hr hc hp => hb.result_eq (by simp [WritesResult, hr, hc, hp])⟩
  · obtain ⟨-, hzero, -⟩ | ⟨hok, -⟩ := hb.of_read hi
    · exact hzero
    · exact absurd hok hst
  · obtain ⟨hne, -⟩ | ⟨-, -, hdecoded⟩ := hb.of_read hi
    · exact absurd hst hne
    · exact hdecoded
  · rintro rfl
    cases h
    rfl

end Sys2Proof.Machine
end

section
/-! PROOFS. What a step can do to the handles, said once (`step_handles`), and the two invariants that every step keeps. -/

namespace Sys2Proof.Machine

/-! ### The frame of the other handles -/

theorem identifyAnswer_others (s : State) (a : Option Address) :
    (s.identifyAnswer a).before = s.before ∧ (s.identifyAnswer a).after = s.after := by
  unfold State.identifyAnswer
  split
  · exact ⟨rfl, rfl⟩
  · split
    · split <;> exact ⟨rfl, rfl⟩
    · exact ⟨rfl, rfl⟩

theorem identify_others (s : State) (first : Bool) :
    (s.identify first).before = s.before ∧ (s.identify first).after = s.after := by
  unfold State.identify
  split
  · exact ⟨rfl, rfl⟩
  · exact identifyAnswer_others (s.begin.busSearch first) _

theorem assertVariant_others (s : State) (v : Variant) :
    (s.assertVariant v).before = s.before ∧ (s.assertVariant v).after = s.after := by
  unfold State.assertVariant
  split <;> exact ⟨rfl, rfl⟩

theorem writeBack_others (s : State) (sp : Scratchpad) (r : BitVec 4) :
    (s.writeBack sp r).before = s.before ∧ (s.writeBack sp r).after = s.after := by
  unfold State.writeBack
  dsimp only
  split <;> exact ⟨rfl, rfl⟩

/-- R212: an instruction keeps the handles that are not selected. -/
theorem exec_others {i : Instr} {s t : State} (h : exec i s = .next t) : t.before = s.before ∧ t.after = s.after := by
  cases i with
  | identifyFirst | identifyNext => cases h; exact identify_others s _
  | assertS | assertB => cases h; exact assertVariant_others s _
  | setres n =>
    obtain ⟨-, rfl⟩ | ⟨-, -, rfl⟩ | ⟨-, sp, -, rfl⟩ := execSetres_next n s t h
    · exact ⟨rfl, rfl⟩
    · exact ⟨rfl, rfl⟩
    · exact writeBack_others s.begin.readScratchpad sp _
  | convert => obtain ⟨-, rfl⟩ | ⟨-, -, rfl⟩ | ⟨-, -, rfl⟩ := execConvert_next s t h <;> exact ⟨rfl, rfl⟩
  | read => obtain ⟨-, rfl⟩ | ⟨-, -, rfl⟩ | ⟨-, _, _, -, -, rfl⟩ := execRead_next s t h <;> exact ⟨rfl, rfl⟩
  | readc =>
    obtain ⟨-, rfl⟩ | ⟨-, -, rfl⟩ | ⟨-, _, -, -, rfl⟩ | ⟨-, _, _, -, -, -, rfl⟩ := execReadc_next s t h <;>
      exact ⟨rfl, rfl⟩
  | busRead => obtain ⟨-, rfl⟩ | ⟨_, -, rfl⟩ := execBusRead_next s t h <;> exact ⟨rfl, rfl⟩
  | isPresent | family10 | family28 | family22 | cfgRes9 | cfgRes10 | cfgRes11 | cfgRes12 | busConvert | busWrite =>
    cases h; exact ⟨rfl, rfl⟩

/-! ### What a step does to the handles -/

/-- What a host action can make of the registers of the selected handle in `s`. -/
inductive SelectedAfter (s : State) : Block → Prop where
  /-- `RST` (R220). -/
  | reset : SelectedAfter s Block.reset
  /-- A data code without a row. -/
  | kept : SelectedAfter s s.blk
  /-- An illegal command word (R204). -/
  | illegalWord : SelectedAfter s (s.blk.setStatus .illegalCommand)
  /-- An instruction. -/
  | instruction (i : Instr) (b : Block) (h : BlockAfter s i b) : SelectedAfter s b

/-- A host action keeps all the handles, adds a reset one, or changes the selected one alone. -/
def HandlesAfter (s t : State) : Prop :=
  t.handles = s.handles ∨ t.handles = s.handles ++ [Block.reset] ∨
    (t.before = s.before ∧ t.after = s.after ∧ SelectedAfter s t.blk)

theorem runWord_handles {p : PortWord} {s t : State} (h : runWord p s = .next t) : HandlesAfter s t := by
  refine .inr (.inr ?_)
  cases hd : decode p with
  | instr i =>
    rw [runWord_instr p i s hd] at h
    obtain ⟨hbefore, hafter⟩ := exec_others h
    exact ⟨hbefore, hafter, .instruction i _ (exec_blockAfter h)⟩
  | reject r =>
    rw [runWord_reject p r s hd] at h
    obtain ⟨_, -, rfl⟩ | ⟨_, -, rfl⟩ | ⟨_, -, rfl⟩ := rejectWord_next s t p h
    · exact ⟨rfl, rfl, .illegalWord⟩
    · exact ⟨rfl, rfl, .kept⟩
    · exact ⟨rfl, rfl, .kept⟩

theorem runInput_handles {x : HostInput} {s t : State} (h : runInput x s = .next t) : HandlesAfter s t := by
  cases x with
  | word p => exact runWord_handles h
  | rst => cases h; exact .inr (.inr ⟨rfl, rfl, .reset⟩)
  | construct => cases h; exact .inr (.inl (by simp [State.handles]))
  | select k => exact .inl (select_next s t k h).1
  | look r =>
    obtain ⟨x, -, rfl⟩ := look_next s t r h
    exact .inl rfl

/-- A step does to the handles what the host's next action does. -/
theorem step_handles {s t : State} (h : step s = .next t) :
    ∃ rest, HandlesAfter { s with inputs := rest } t := by
  cases hs : s.inputs with
  | nil =>
    rw [step_idle s hs] at h
    cases h
    exact ⟨s.inputs, .inl rfl⟩
  | cons x rest =>
    rw [step_cons s x rest hs] at h
    exact ⟨rest, runInput_handles h⟩

/-- A property of blocks that holds at reset and that every instruction and every illegal word keeps, is kept on all the
handles by every step. -/
theorem step_keeps_blocks {P : Block → Prop} (hreset : P Block.reset)
    (hillegal : ∀ b, P b → P (b.setStatus .illegalCommand))
    (hinstr : ∀ s i b, P s.blk → BlockAfter s i b → P b)
    {s t : State} (hs : ∀ b ∈ s.handles, P b) (h : step s = .next t) : ∀ b ∈ t.handles, P b := by
  obtain ⟨rest, hsame | happend | ⟨hbefore, hafter, hblk⟩⟩ := step_handles h
  · rwa [hsame]
  · intro b hb
    rw [happend, List.mem_append, List.mem_singleton] at hb
    exact hb.elim (hs b) fun heq => heq ▸ hreset
  · have hsel : P s.blk := hs _ ((mem_handles s _).2 (.inr (.inl rfl)))
    have ht : P t.blk := by
      generalize t.blk = b at hblk
      cases hblk with
      | reset => exact hreset
      | kept => exact hsel
      | illegalWord => exact hillegal _ hsel
      | instruction i _ hb => exact hinstr { s with inputs := rest } i _ hsel hb
    intro b hb
    rw [mem_handles, hbefore, hafter] at hb
    obtain hb | rfl | hb := hb
    · exact hs b ((mem_handles s b).2 (.inl hb))
    · exact ht
    · exact hs b ((mem_handles s b).2 (.inr (.inr hb)))

/-! ### The invariants of R31, one register write at a time -/

theorem Block.inv_reset : Block.reset.Inv where
  present_variant := by simp [Block.reset]
  addr_identity := by simp [Block.reset]
  variant_code := by decide
  res_range := by simp [Block.reset]
  absent_blank := by simp [Block.reset]

/-- The invariants do not speak of `SP`, `RESULT` and `STATUS`. -/
theorem Block.Inv.congr {b c : Block} (h : b.Inv) (hp : c.present = b.present) (hv : c.variant = b.variant)
    (ha : c.addr = b.addr) (hr : c.res = b.res) (ht : c.temp = b.temp) : c.Inv where
  present_variant := by rw [hp, hv]; exact h.present_variant
  addr_identity := by rw [hp, hv, ha]; exact h.addr_identity
  variant_code := by rw [hv]; exact h.variant_code
  res_range := by rw [hv, hr]; exact h.res_range
  absent_blank := by rw [hp, hv, ha, hr, ht]; exact h.absent_blank

theorem Block.Inv.setStatus {b : Block} (h : b.Inv) (st : Status) : (b.setStatus st).Inv := h.congr rfl rfl rfl rfl rfl

theorem Block.Inv.setSp {b : Block} (h : b.Inv) (sp : Scratchpad) : (b.setSp sp).Inv := h.congr rfl rfl rfl rfl rfl

theorem Block.Inv.setResult {b : Block} (h : b.Inv) (x : Float32Bits) : (b.setResult x).Inv :=
  h.congr rfl rfl rfl rfl rfl

theorem Block.Inv.setVariant_unsupported {b : Block} (h : b.Inv) (hp : b.present = false) :
    (b.setVariant .unsupported).Inv :=
  h.congr rfl (h.absent_blank hp).1.symm rfl rfl rfl

/-- `TEMP` may be written on a present handle. -/
theorem Block.Inv.setTemp {b : Block} (h : b.Inv) (hp : b.present = true) (f : Float32Bits) : (b.setTemp f).Inv where
  present_variant := h.present_variant
  addr_identity := h.addr_identity
  variant_code := h.variant_code
  res_range := h.res_range
  absent_blank := by simp [hp]

/-- (I-d) holds of what the clamp gives (R130). -/
theorem clamp_res_range (n : Int) (v : Variant) :
    9 ≤ (clamp n v).toNat ∧ (clamp n v).toNat ≤ 12 ∧ (v = .modelS → (clamp n v).toNat = 9) := by
  have hclamp := clamp_toNat n v
  have hrange := clampInt_range n v
  refine ⟨by omega, by omega, fun hv => ?_⟩
  simp only [clampInt, hv, if_true] at hclamp ⊢
  omega

theorem Block.Inv.setRes_clamp {b : Block} (h : b.Inv) (hp : b.present = true) (n : Int) :
    (b.setRes (clamp n b.variant)).Inv where
  present_variant := h.present_variant
  addr_identity := h.addr_identity
  variant_code := h.variant_code
  res_range := by
    rintro r hr
    cases hr
    exact clamp_res_range n b.variant
  absent_blank := by simp [hp]

theorem dispatch_supported {fc : Byte} (h : dispatch fc ≠ .unsupported) :
    dispatch fc = .modelS ∨ dispatch fc = .modelB := by
  obtain ⟨-, hd⟩ | ⟨-, hd⟩ | ⟨-, -, -, hd⟩ := dispatch_cases fc
  · exact .inl hd
  · exact .inr hd
  · exact absurd hd h

theorem code_ne_reserved {v : Variant} (h : v = .modelS ∨ v = .modelB) : v.code ≠ 0b11#2 := by
  rcases h with rfl | rfl <;> decide

/-- An absent block holds no resolution, so a new identity meets (I-d). -/
theorem Block.Inv.identifiedAs {b : Block} (h : b.Inv) (hp : b.present = false) {a : Address} (hc : addrOK a = true)
    (hd : dispatch a.family ≠ .unsupported) : (b.identifiedAs a (dispatch a.family)).Inv where
  present_variant := fun _ => dispatch_supported hd
  addr_identity := by
    rintro x hx
    cases hx
    exact ⟨rfl, (addrOK_iff a).1 hc, rfl⟩
  variant_code := code_ne_reserved (dispatch_supported hd)
  res_range := by
    obtain ⟨-, -, hres, -⟩ := h.absent_blank hp
    simp [hres]
  absent_blank := by simp

/-- An absent block holds no address, so an asserted variant need not agree with one. -/
theorem Block.Inv.assertedAs {b : Block} (h : b.Inv) (hp : b.present = false) {v : Variant}
    (hv : v = .modelS ∨ v = .modelB) : (b.assertedAs v).Inv where
  present_variant := fun _ => hv
  addr_identity := by
    obtain ⟨-, haddr, -, -⟩ := h.absent_blank hp
    simp [haddr]
  variant_code := code_ne_reserved hv
  res_range := by
    obtain ⟨-, -, hres, -⟩ := h.absent_blank hp
    simp [hres]
  absent_blank := by simp

/-- Every instruction keeps the invariants of the selected handle. -/
theorem BlockAfter.inv {s : State} {i : Instr} {b : Block} (hs : s.blk.Inv) (h : BlockAfter s i b) : b.Inv := by
  cases h with
  | kept => exact hs
  | busFetched sp => exact hs.setSp sp
  | statusOnly i hi st => exact hs.setStatus st
  | unsupported i hi hp => exact (hs.setVariant_unsupported hp).setStatus _
  | identified i hi hp a hc hd => exact (hs.identifiedAs hp hc hd).setStatus _
  | asserted i v hi hp => exact (hs.assertedAs hp (hi.imp And.right And.right)).setStatus _
  | presenceCopied => exact (hs.setResult _).setStatus _
  | writeFailed n sp => exact (hs.setSp sp).setStatus _
  | resolutionSet n sp hp => exact ((hs.setSp sp).setRes_clamp hp n).setStatus _
  | notFetched i hi st => exact (hs.setResult _).setStatus st
  | badCrc sp => exact ((hs.setSp sp).setResult _).setStatus _
  | temperatureRead i hi hp sp ha f hf => exact (((hs.setSp sp).setResult f).setTemp hp f).setStatus _

/-! ### `TEMP` is a decoder value -/

/-- `State.TempDecoded` of one block. -/
def Block.TempDecoded (b : Block) : Prop := ∀ f, b.temp = some f → ∃ raw, f = toFloat (scale raw)

theorem Block.tempDecoded_reset : Block.reset.TempDecoded := by simp [Block.TempDecoded, Block.reset]

theorem decodeTemp_scaled {sp : Scratchpad} {v : Variant} {f : Float32Bits} (h : decodeTemp sp v = some f) :
    ∃ raw, f = toFloat (scale raw) := by
  obtain ⟨-, hf⟩ | ⟨-, hf⟩ := decodeTemp_eq_some sp v f h
  · exact ⟨_, hf⟩
  · exact ⟨_, hf⟩

theorem BlockAfter.tempDecoded {s : State} {i : Instr} {b : Block} (hs : s.blk.TempDecoded) (h : BlockAfter s i b) :
    b.TempDecoded := by
  intro f hf
  by_cases hi : i = .read ∨ i = .readc
  · obtain ⟨-, -, htemp⟩ | ⟨-, htemp, sp, -, hdecoded⟩ := h.of_read hi
    · exact hs f (htemp ▸ hf)
    · cases htemp.symm.trans hf
      exact decodeTemp_scaled hdecoded
  · exact hs f (h.temp_eq hi ▸ hf)

/-! ### Settled -/

/-- Settles O46: the invariants hold at reset, and every instruction keeps them (`BlockAfter.inv`). -/
theorem stepKeepsTheInvariants : Obligations.StepKeepsTheInvariants := by
  unfold Obligations.StepKeepsTheInvariants
  intro s t hs h
  exact step_keeps_blocks Block.inv_reset (fun _ hb => hb.setStatus _) (fun _ _ _ hb h => h.inv hb) hs h

/-- Settles O47: only a read that ends OK writes `TEMP`, with the decoder's value. -/
theorem stepKeepsTempADecoderValue : Obligations.StepKeepsTempADecoderValue := by
  unfold Obligations.StepKeepsTempADecoderValue
  intro s t hs h
  exact step_keeps_blocks (P := Block.TempDecoded) Block.tempDecoded_reset (fun _ hb => hb)
    (fun _ _ _ hb h => h.tempDecoded hb) hs h

/-- Settles O45: the one handle of the reset state is the reset block. -/
theorem resetStateMeetsTheInvariants : Obligations.ResetStateMeetsTheInvariants := by
  unfold Obligations.ResetStateMeetsTheInvariants
  have honly : ∀ b ∈ State.reset.handles, b = Block.reset := fun b hb => List.mem_singleton.1 hb
  exact ⟨fun b hb => honly b hb ▸ Block.inv_reset, fun b hb => honly b hb ▸ Block.tempDecoded_reset⟩

end Sys2Proof.Machine
end

section
/-! PROOFS. What commands do on a handle that is not present (R23). -/

namespace Sys2Proof.Machine

/-- The registers that a command leaves alone on an absent handle. -/
def SameData (b c : Block) : Prop := c.sp = b.sp ∧ c.res = b.res ∧ c.temp = b.temp

/-- The checks of IDENTIFY issue no request and write none of `SP`, `RES` and `TEMP`. -/
theorem identifyAnswer_frame (s : State) (a : Option Address) :
    (s.identifyAnswer a).txns = s.txns ∧ SameData s.blk (s.identifyAnswer a).blk := by
  unfold State.identifyAnswer
  split
  · exact ⟨rfl, rfl, rfl, rfl⟩
  · split
    · split <;> exact ⟨rfl, rfl, rfl, rfl⟩
    · exact ⟨rfl, rfl, rfl, rfl⟩

theorem identify_absent_frame (s : State) (first : Bool) (hp : s.blk.present = false) :
    (s.identify first).txns = [.search first s.searchAnswer] ∧ SameData s.blk (s.identify first).blk := by
  rw [identify_absent s first hp]
  exact identifyAnswer_frame (s.begin.busSearch first) _

/-- On an absent handle a command issues one search, if it is an IDENTIFY, or nothing. -/
theorem exec_absent_frame {i : Instr} {s t : State} (hi : i.isCommand = true) (hp : s.blk.present = false)
    (h : exec i s = .next t) :
    (t.txns = [] ∨ (i = .identifyFirst ∧ t.txns = [.search true s.searchAnswer]) ∨
      (i = .identifyNext ∧ t.txns = [.search false s.searchAnswer])) ∧ SameData s.blk t.blk := by
  cases i with
  | identifyFirst =>
    cases h
    obtain ⟨htxns, hdata⟩ := identify_absent_frame s true hp
    exact ⟨.inr (.inl ⟨rfl, htxns⟩), hdata⟩
  | identifyNext =>
    cases h
    obtain ⟨htxns, hdata⟩ := identify_absent_frame s false hp
    exact ⟨.inr (.inr ⟨rfl, htxns⟩), hdata⟩
  | assertS | assertB =>
    cases h
    rw [assertVariant_absent s _ hp]
    exact ⟨.inl rfl, rfl, rfl, rfl⟩
  | isPresent => cases h; exact ⟨.inl rfl, rfl, rfl, rfl⟩
  | setres n => cases (execSetres_absent n s hp).symm.trans h; exact ⟨.inl rfl, rfl, rfl, rfl⟩
  | convert => cases (execConvert_absent s hp).symm.trans h; exact ⟨.inl rfl, rfl, rfl, rfl⟩
  | read => cases (execRead_absent s hp).symm.trans h; exact ⟨.inl rfl, rfl, rfl, rfl⟩
  | readc => cases (execReadc_absent s hp).symm.trans h; exact ⟨.inl rfl, rfl, rfl, rfl⟩
  | _ => cases hi

/-- Settles O36, from the frame of commands on an absent handle. -/
theorem busTransactionsNeedAPresentHandle : Obligations.BusTransactionsNeedAPresentHandle := by
  unfold Obligations.BusTransactionsNeedAPresentHandle
  intro i s t hi hp h
  obtain ⟨htxns, hdata⟩ := exec_absent_frame hi hp h
  refine ⟨fun sel cmd8 wdata rlen answer hmem => ?_, htxns.resolve_left, hdata⟩
  obtain hnil | ⟨-, hsearch⟩ | ⟨-, hsearch⟩ := htxns
  · simp [hnil] at hmem
  · simp [hsearch] at hmem
  · simp [hsearch] at hmem

end Sys2Proof.Machine
end

section
/-! PROOFS. Two runs of one command from blocks that agree on the identity: a relation that every operation keeps. -/

namespace Sys2Proof.Machine

/-- Registers `b'` and `c'` of two runs begun with `b` and `c`: the same identity, and each other register but `STATUS`
written alike or left alone in both. -/
structure Block.Alike (b c b' c' : Block) : Prop where
  present : c'.present = b'.present
  variant : c'.variant = b'.variant
  addr    : c'.addr = b'.addr
  sp      : c'.sp = b'.sp ∨ (c'.sp = c.sp ∧ b'.sp = b.sp)
  res     : c'.res = b'.res ∨ (c'.res = c.res ∧ b'.res = b.res)
  temp    : c'.temp = b'.temp ∨ (c'.temp = c.temp ∧ b'.temp = b.temp)
  result  : c'.result = b'.result ∨ (c'.result = c.result ∧ b'.result = b.result)

/-- Two runs begun with the registers `b` and `c`, now in `t` and `u`: alike registers, the same transactions, and the same
answers to come. -/
structure State.Alike (b c : Block) (t u : State) : Prop where
  blk           : Block.Alike b c t.blk u.blk
  searchAnswers : u.searchAnswers = t.searchAnswers
  txnAnswers    : u.txnAnswers = t.txnAnswers
  draws         : u.draws = t.draws
  txns          : u.txns = t.txns

/-- Two runs that end alike, and with the same status. -/
inductive EndAlike (b c : Block) : Host.Outcome State Fault Refusal → Host.Outcome State Fault Refusal → Prop where
  | next (t u : State) (h : State.Alike b c t u) (hst : u.blk.status = t.blk.status) : EndAlike b c (.next t) (.next u)
  | fault (r : Fault) : EndAlike b c (.fault r) (.fault r)

section Runs

variable {b c b' c' : Block} {t u : State}

/-! ### Register writes -/

theorem Block.Alike.setStatus (h : Block.Alike b c b' c') (st : Status) :
    Block.Alike b c (b'.setStatus st) (c'.setStatus st) :=
  ⟨h.present, h.variant, h.addr, h.sp, h.res, h.temp, h.result⟩

theorem Block.Alike.setVariant (h : Block.Alike b c b' c') (v : Variant) :
    Block.Alike b c (b'.setVariant v) (c'.setVariant v) :=
  ⟨h.present, rfl, h.addr, h.sp, h.res, h.temp, h.result⟩

theorem Block.Alike.identifiedAs (h : Block.Alike b c b' c') (a : Address) (v : Variant) :
    Block.Alike b c (b'.identifiedAs a v) (c'.identifiedAs a v) :=
  ⟨rfl, rfl, rfl, h.sp, h.res, h.temp, h.result⟩

theorem Block.Alike.assertedAs (h : Block.Alike b c b' c') (v : Variant) :
    Block.Alike b c (b'.assertedAs v) (c'.assertedAs v) :=
  ⟨rfl, rfl, h.addr, h.sp, h.res, h.temp, h.result⟩

theorem Block.Alike.setSp (h : Block.Alike b c b' c') (sp : Scratchpad) :
    Block.Alike b c (b'.setSp sp) (c'.setSp sp) :=
  ⟨h.present, h.variant, h.addr, .inl rfl, h.res, h.temp, h.result⟩

theorem Block.Alike.setRes (h : Block.Alike b c b' c') (r : BitVec 4) :
    Block.Alike b c (b'.setRes r) (c'.setRes r) :=
  ⟨h.present, h.variant, h.addr, h.sp, .inl rfl, h.temp, h.result⟩

theorem Block.Alike.setResult (h : Block.Alike b c b' c') (x : Float32Bits) :
    Block.Alike b c (b'.setResult x) (c'.setResult x) :=
  ⟨h.present, h.variant, h.addr, h.sp, h.res, h.temp, .inl rfl⟩

theorem Block.Alike.setTemp (h : Block.Alike b c b' c') (f : Float32Bits) :
    Block.Alike b c (b'.setTemp f) (c'.setTemp f) :=
  ⟨h.present, h.variant, h.addr, h.sp, h.res, .inl rfl, h.result⟩

/-- R59: the selection depends on the address alone. -/
theorem Block.Alike.sel_eq (h : Block.Alike b c b' c') : c'.sel = b'.sel := by
  unfold Block.sel; rw [h.addr]

/-! ### State operations -/

theorem State.Alike.setBlk (h : State.Alike b c t u) (hb : Block.Alike b c b' c') :
    State.Alike b c (t.setBlk b') (u.setBlk c') :=
  ⟨hb, h.searchAnswers, h.txnAnswers, h.draws, h.txns⟩

theorem State.Alike.begin (h : State.Alike b c t u) : State.Alike b c t.begin u.begin :=
  ⟨h.blk, h.searchAnswers, h.txnAnswers, h.draws, rfl⟩

theorem State.Alike.searchAnswer_eq (h : State.Alike b c t u) : u.searchAnswer = t.searchAnswer := by
  unfold State.searchAnswer; rw [h.searchAnswers, h.draws]

theorem State.Alike.txnAnswer_eq (h : State.Alike b c t u) : u.txnAnswer = t.txnAnswer := by
  unfold State.txnAnswer; rw [h.txnAnswers, h.draws]

theorem State.Alike.busSearch (h : State.Alike b c t u) (first : Bool) :
    State.Alike b c (t.busSearch first) (u.busSearch first) where
  blk := h.blk
  searchAnswers := congrArg List.tail h.searchAnswers
  txnAnswers := h.txnAnswers
  draws := congrArg (· + 1) h.draws
  txns := by simp [h.txns, h.searchAnswer_eq]

theorem State.Alike.busTxn (h : State.Alike b c t u) (cmd8 : Byte) (wdata : List Byte) (rlen : Nat) :
    State.Alike b c (t.busTxn cmd8 wdata rlen) (u.busTxn cmd8 wdata rlen) where
  blk := h.blk
  searchAnswers := h.searchAnswers
  txnAnswers := congrArg List.tail h.txnAnswers
  draws := congrArg (· + 1) h.draws
  txns := by simp [h.txns, h.txnAnswer_eq, h.blk.sel_eq]

theorem State.Alike.readScratchpad (h : State.Alike b c t u) : State.Alike b c t.readScratchpad u.readScratchpad :=
  h.busTxn _ _ _

theorem State.Alike.writeScratchpad (h : State.Alike b c t u) (sp : Scratchpad) :
    State.Alike b c (t.writeScratchpad sp) (u.writeScratchpad sp) :=
  h.busTxn _ _ _

theorem State.Alike.startConversion (h : State.Alike b c t u) :
    State.Alike b c t.startConversion u.startConversion :=
  h.busTxn _ _ _

/-! ### Ends of a command -/

theorem State.Alike.finish (h : State.Alike b c t u) (st : Status) :
    EndAlike b c (.next (t.finish st)) (.next (u.finish st)) :=
  .next _ _ (h.setBlk (h.blk.setStatus st)) rfl

theorem State.Alike.readFailed (h : State.Alike b c t u) (st : Status) :
    EndAlike b c (.next (t.readFailed st)) (.next (u.readFailed st)) :=
  (h.setBlk (h.blk.setResult 0#32)).finish st

theorem State.Alike.reading (h : State.Alike b c t u) (sp : Scratchpad) :
    EndAlike b c (t.reading sp) (u.reading sp) := by
  unfold State.reading
  rw [h.blk.variant]
  split
  · exact (h.setBlk ((h.blk.setResult _).setTemp _)).finish .ok
  · exact .fault _

theorem State.Alike.identifyAnswer (h : State.Alike b c t u) (a : Option Address) :
    EndAlike b c (.next (t.identifyAnswer a)) (.next (u.identifyAnswer a)) := by
  unfold State.identifyAnswer
  split
  · exact h.finish _
  · split
    · split
      · exact (h.setBlk (h.blk.setVariant _)).finish _
      · exact (h.setBlk (h.blk.identifiedAs _ _)).finish _
    · exact h.finish _

theorem State.Alike.writeBack (h : State.Alike b c t u) (sp : Scratchpad) (r : BitVec 4) :
    EndAlike b c (.next (t.writeBack sp r)) (.next (u.writeBack sp r)) := by
  have hsp := h.setBlk (h.blk.setSp { sp with config := cfgCompute Config.cfgMerge sp.config r })
  have hwritten := hsp.writeScratchpad { sp with config := cfgCompute Config.cfgMerge sp.config r }
  cases ha : t.txnAnswer with
  | fail =>
    rw [writeBack_fail t sp r ha, writeBack_fail u sp r (h.txnAnswer_eq.trans ha)]
    exact hwritten.finish _
  | ok x =>
    rw [writeBack_ok t sp x r ha, writeBack_ok u sp x r (h.txnAnswer_eq.trans ha)]
    exact (hwritten.setBlk (hwritten.blk.setRes r)).finish _

/-! ### The commands -/

theorem State.Alike.identify (h : State.Alike b c t u) (first : Bool) :
    EndAlike b c (.next (t.identify first)) (.next (u.identify first)) := by
  unfold State.identify
  rw [h.blk.present, h.searchAnswer_eq]
  split
  · exact h.begin.finish _
  · exact (h.begin.busSearch first).identifyAnswer _

theorem State.Alike.assertVariant (h : State.Alike b c t u) (v : Variant) :
    EndAlike b c (.next (t.assertVariant v)) (.next (u.assertVariant v)) := by
  unfold State.assertVariant
  rw [h.blk.present]
  split
  · exact h.begin.finish _
  · exact (h.begin.setBlk (h.blk.assertedAs v)).finish _

theorem State.Alike.execIsPresent (h : State.Alike b c t u) : EndAlike b c (execIsPresent t) (execIsPresent u) := by
  unfold Machine.execIsPresent
  rw [h.blk.present]
  exact (h.begin.setBlk (h.blk.setResult _)).finish _

theorem State.Alike.execSetres (h : State.Alike b c t u) (n : Int) :
    EndAlike b c (execSetres n t) (execSetres n u) := by
  unfold Machine.execSetres
  rw [h.blk.present, h.txnAnswer_eq, h.blk.variant]
  split
  · split
    · exact h.begin.readScratchpad.finish _
    · exact h.begin.readScratchpad.writeBack _ _
  · exact h.begin.finish _

theorem State.Alike.execConvert (h : State.Alike b c t u) : EndAlike b c (execConvert t) (execConvert u) := by
  unfold Machine.execConvert
  rw [h.blk.present, h.txnAnswer_eq]
  split
  · split <;> exact h.begin.startConversion.finish _
  · exact h.begin.finish _

theorem State.Alike.fetched (h : State.Alike b c t u) (sp : Scratchpad) :
    State.Alike b c (t.fetched sp) (u.fetched sp) :=
  h.begin.readScratchpad.setBlk (h.blk.setSp sp)

theorem State.Alike.execRead (h : State.Alike b c t u) : EndAlike b c (execRead t) (execRead u) := by
  unfold Machine.execRead
  rw [h.blk.present, h.txnAnswer_eq]
  split
  · split
    · exact h.begin.readScratchpad.readFailed _
    · exact (h.fetched _).reading _
  · exact h.begin.readFailed _

theorem State.Alike.execReadc (h : State.Alike b c t u) : EndAlike b c (execReadc t) (execReadc u) := by
  unfold Machine.execReadc
  rw [h.blk.present, h.txnAnswer_eq]
  split
  · split
    · exact h.begin.readScratchpad.readFailed _
    · split
      · exact (h.fetched _).reading _
      · exact (h.fetched _).readFailed _
  · exact h.begin.readFailed _

/-- Alike runs of a command end alike. -/
theorem State.Alike.exec {i : Instr} (h : State.Alike b c t u) (hi : i.isCommand = true) :
    EndAlike b c (exec i t) (exec i u) := by
  cases i with
  | identifyFirst => exact h.identify true
  | identifyNext => exact h.identify false
  | assertS => exact h.assertVariant .modelS
  | assertB => exact h.assertVariant .modelB
  | isPresent => exact h.execIsPresent
  | setres n => exact h.execSetres n
  | convert => exact h.execConvert
  | read => exact h.execRead
  | readc => exact h.execReadc
  | _ => cases hi

end Runs

/-- Two runs from states that differ in the registers begin alike when the identities agree. -/
theorem State.Alike.start {s : State} {b : Block} (hp : b.present = s.blk.present) (hv : b.variant = s.blk.variant)
    (ha : b.addr = s.blk.addr) : State.Alike s.blk b s { s with blk := b } :=
  ⟨⟨hp, hv, ha, .inr ⟨rfl, rfl⟩, .inr ⟨rfl, rfl⟩, .inr ⟨rfl, rfl⟩, .inr ⟨rfl, rfl⟩⟩, rfl, rfl, rfl, rfl⟩

/-- Settles O42: runs that begin alike end alike (`State.Alike.exec`). -/
theorem commandsReadOnlyTheIdentity : Obligations.CommandsReadOnlyTheIdentity := by
  unfold Obligations.CommandsReadOnlyTheIdentity
  intro i s b hi hp hv ha
  have hend := (State.Alike.start hp hv ha).exec hi
  refine ⟨fun t ht => ?_, fun r hr => ?_⟩
  · rw [ht] at hend
    cases hu : exec i { s with blk := b } with
    | next u =>
      rw [hu] at hend
      cases hend with
      | next _ _ h hst =>
        exact ⟨u, rfl, h.blk.present, h.blk.variant, h.blk.addr, hst, h.txns, h.blk.sp, h.blk.res, h.blk.temp,
          h.blk.result⟩
    | _ => rw [hu] at hend; cases hend
  · rw [hr] at hend
    generalize exec i { s with blk := b } = out at hend ⊢
    cases hend
    rfl

end Sys2Proof.Machine
end

section
/-! PROOFS. Where the bytes of the register arrays stand in their words (R50 to R52). -/

namespace Sys2Proof.Machine

/-- The bytes before the last appended one stand one byte higher than they did. -/
theorem extract_byte_succ {w : Nat} (hi : BitVec w) (b : Byte) (i : Nat) :
    (hi ++ b).extractLsb' (8 * (i + 1)) 8 = hi.extractLsb' (8 * i) 8 :=
  BitVec.extractLsb'_append_eq_of_le (by omega)

theorem address_toWord_byte (a : Address) (i : Nat) (h : i < a.bytes.length) :
    a.toWord.extractLsb' (8 * i) 8 = a.bytes[i] := by
  have hi : i < 8 := h
  unfold Address.toWord
  interval_cases i <;>
    simp only [extract_byte_succ, Nat.mul_zero, BitVec.extractLsb'_append_eq_right, BitVec.extractLsb'_eq_self] <;> rfl

theorem scratchpad_toWord_byte (sp : Scratchpad) (i : Nat) (h : i < sp.bytes.length) :
    sp.toWord.extractLsb' (8 * i) 8 = sp.bytes[i] := by
  have hi : i < 9 := h
  unfold Scratchpad.toWord
  interval_cases i <;>
    simp only [extract_byte_succ, Nat.mul_zero, BitVec.extractLsb'_append_eq_right, BitVec.extractLsb'_eq_self] <;> rfl

/-- R51: the raw word is byte 1 followed by byte 0. -/
theorem raw0_eq_append (sp : Scratchpad) : raw0 sp = sp.tempHigh ++ sp.tempLow := by
  calc raw0 sp = (sp.tempHigh ++ sp.tempLow).setWidth 16 := by
        rw [raw0, BitVec.setWidth_append_eq_shiftLeft_setWidth_or, BitVec.or_comm]
    _ = sp.tempHigh ++ sp.tempLow := BitVec.setWidth_eq _

theorem raw0_toNat (sp : Scratchpad) : (raw0 sp).toNat = sp.tempLow.toNat + 256 * sp.tempHigh.toNat := by
  rw [raw0_eq_append, BitVec.toNat_append, ← Nat.shiftLeft_add_eq_or_of_lt sp.tempLow.isLt, Nat.shiftLeft_eq]
  omega

/-- Settles O6, one array and the raw word at a time. -/
theorem registerBytesStandInIndexOrder : Obligations.RegisterBytesStandInIndexOrder := by
  unfold Obligations.RegisterBytesStandInIndexOrder
  exact ⟨address_toWord_byte, scratchpad_toWord_byte, raw0_toNat⟩

end Sys2Proof.Machine
end

section
/-! PROOFS. What an instruction asks of the transport, said once (`exec_transportAfter`), and what follows for the widths of the
transactions and for the answers drawn (R55, R56, R202). -/

namespace Sys2Proof.Machine

/-- The instructions that start a transaction list: the commands and the lone bus bytes. -/
def IssuesRequests (i : Instr) : Prop := i.isCommand = true ∨ i = .busConvert ∨ i = .busRead ∨ i = .busWrite

/-- `t` holds the answers to come, the counter and the transaction list of `u`. -/
structure SameTransport (u t : State) : Prop where
  searchAnswers : t.searchAnswers = u.searchAnswers
  txnAnswers    : t.txnAnswers = u.txnAnswers
  draws         : t.draws = u.draws
  txns          : t.txns = u.txns

/-- The requests that instruction `i` can have issued from `s` when it ends in `t`, one constructor per sequence. -/
inductive TransportAfter (s : State) : Instr → State → Prop where
  /-- A family or configuration code. -/
  | untouched (i : Instr) (t : State) (hi : ¬ IssuesRequests i) (h : SameTransport s t) : TransportAfter s i t
  /-- A command that issues no request. -/
  | silent (i : Instr) (t : State) (hi : i.isCommand = true) (h : SameTransport s.begin t) : TransportAfter s i t
  /-- IDENTIFY on an absent handle (R110). -/
  | searched (i : Instr) (first : Bool) (t : State)
      (hi : i = .identifyFirst ∧ first = true ∨ i = .identifyNext ∧ first = false)
      (h : SameTransport (s.begin.busSearch first) t) : TransportAfter s i t
  /-- CONVERT on a present handle (R152), and the lone bus byte 0x44. -/
  | converted (i : Instr) (t : State) (hi : i = .convert ∨ i = .busConvert)
      (h : SameTransport s.begin.startConversion t) : TransportAfter s i t
  /-- READ and READC on a present handle (R181), SETRES whose read failed (R137), and the lone bus byte 0xBE. -/
  | fetched (i : Instr) (t : State) (hi : (∃ n, i = .setres n) ∨ i = .read ∨ i = .readc ∨ i = .busRead)
      (h : SameTransport s.begin.readScratchpad t) : TransportAfter s i t
  /-- SETRES whose read succeeded writes the bytes that it leaves in `SP` (R137). -/
  | writtenBack (n : Int) (t : State) (sp : Scratchpad) (hsp : t.blk.sp = some sp)
      (h : SameTransport (s.begin.readScratchpad.writeScratchpad sp) t) : TransportAfter s (.setres n) t
  /-- The lone bus byte 0x4E. -/
  | written (t : State) (h : SameTransport (s.begin.writeScratchpad s.spOrFree) t) : TransportAfter s .busWrite t

/-! ### Each instruction issues one of these sequences -/

theorem sameTransport_identifyAnswer (s : State) (a : Option Address) : SameTransport s (s.identifyAnswer a) := by
  unfold State.identifyAnswer
  split
  · exact ⟨rfl, rfl, rfl, rfl⟩
  · split
    · split <;> exact ⟨rfl, rfl, rfl, rfl⟩
    · exact ⟨rfl, rfl, rfl, rfl⟩

theorem identify_transportAfter (s : State) (first : Bool) (i : Instr)
    (hi : i = .identifyFirst ∧ first = true ∨ i = .identifyNext ∧ first = false) :
    TransportAfter s i (s.identify first) := by
  unfold State.identify
  split
  · exact .silent i _ (by rcases hi with ⟨rfl, -⟩ | ⟨rfl, -⟩ <;> rfl) ⟨rfl, rfl, rfl, rfl⟩
  · exact .searched i first _ hi (sameTransport_identifyAnswer _ _)

theorem sameTransport_assertVariant (s : State) (v : Variant) : SameTransport s.begin (s.assertVariant v) := by
  unfold State.assertVariant
  split <;> exact ⟨rfl, rfl, rfl, rfl⟩

theorem execSetres_transportAfter {n : Int} {s t : State} (h : execSetres n s = .next t) :
    TransportAfter s (.setres n) t := by
  obtain ⟨-, rfl⟩ | ⟨-, -, rfl⟩ | ⟨-, sp, -, rfl⟩ := execSetres_next n s t h
  · exact .silent _ _ rfl ⟨rfl, rfl, rfl, rfl⟩
  · exact .fetched _ _ (.inl ⟨n, rfl⟩) ⟨rfl, rfl, rfl, rfl⟩
  · cases hw : s.begin.readScratchpad.txnAnswer with
    | fail =>
      rw [writeBack_fail _ sp _ hw]
      exact .writtenBack n _ _ rfl ⟨rfl, rfl, rfl, rfl⟩
    | ok x =>
      rw [writeBack_ok _ sp x _ hw]
      exact .writtenBack n _ _ rfl ⟨rfl, rfl, rfl, rfl⟩

theorem execConvert_transportAfter {s t : State} (h : execConvert s = .next t) : TransportAfter s .convert t := by
  obtain ⟨-, rfl⟩ | ⟨-, -, rfl⟩ | ⟨-, -, rfl⟩ := execConvert_next s t h
  · exact .silent _ _ rfl ⟨rfl, rfl, rfl, rfl⟩
  · exact .converted _ _ (.inl rfl) ⟨rfl, rfl, rfl, rfl⟩
  · exact .converted _ _ (.inl rfl) ⟨rfl, rfl, rfl, rfl⟩

theorem execRead_transportAfter {s t : State} (h : execRead s = .next t) : TransportAfter s .read t := by
  obtain ⟨-, rfl⟩ | ⟨-, -, rfl⟩ | ⟨-, sp, f, -, -, rfl⟩ := execRead_next s t h
  · exact .silent _ _ rfl ⟨rfl, rfl, rfl, rfl⟩
  · exact .fetched _ _ (.inr (.inl rfl)) ⟨rfl, rfl, rfl, rfl⟩
  · exact .fetched _ _ (.inr (.inl rfl)) ⟨rfl, rfl, rfl, rfl⟩

theorem execReadc_transportAfter {s t : State} (h : execReadc s = .next t) : TransportAfter s .readc t := by
  obtain ⟨-, rfl⟩ | ⟨-, -, rfl⟩ | ⟨-, sp, -, -, rfl⟩ | ⟨-, sp, f, -, -, -, rfl⟩ := execReadc_next s t h
  · exact .silent _ _ rfl ⟨rfl, rfl, rfl, rfl⟩
  all_goals exact .fetched _ _ (.inr (.inr (.inl rfl))) ⟨rfl, rfl, rfl, rfl⟩

theorem execBusRead_transportAfter {s t : State} (h : execBusRead s = .next t) : TransportAfter s .busRead t := by
  obtain ⟨-, rfl⟩ | ⟨sp, -, rfl⟩ := execBusRead_next s t h <;>
    exact .fetched _ _ (.inr (.inr (.inr rfl))) ⟨rfl, rfl, rfl, rfl⟩

/-- Every instruction that ends in a next state has issued one of these sequences of requests. -/
theorem exec_transportAfter {i : Instr} {s t : State} (h : exec i s = .next t) : TransportAfter s i t := by
  cases i with
  | identifyFirst => cases h; exact identify_transportAfter s true _ (.inl ⟨rfl, rfl⟩)
  | identifyNext => cases h; exact identify_transportAfter s false _ (.inr ⟨rfl, rfl⟩)
  | assertS | assertB => cases h; exact .silent _ _ rfl (sameTransport_assertVariant s _)
  | isPresent => cases h; exact .silent _ _ rfl ⟨rfl, rfl, rfl, rfl⟩
  | setres n => exact execSetres_transportAfter h
  | convert => exact execConvert_transportAfter h
  | read => exact execRead_transportAfter h
  | readc => exact execReadc_transportAfter h
  | busConvert => cases h; exact .converted _ _ (.inr rfl) ⟨rfl, rfl, rfl, rfl⟩
  | busRead => exact execBusRead_transportAfter h
  | busWrite => cases h; exact .written _ ⟨rfl, rfl, rfl, rfl⟩
  | family10 | family28 | family22 | cfgRes9 | cfgRes10 | cfgRes11 | cfgRes12 =>
    cases h; exact .untouched _ _ (by simp [IssuesRequests, Instr.isCommand]) ⟨rfl, rfl, rfl, rfl⟩

/-! ### The answers drawn -/

def Exchange.isSearch : Exchange → Bool
  | .search _ _ => true
  | .txn _ _ _ _ _ => false

def Exchange.isTxn : Exchange → Bool
  | .search _ _ => false
  | .txn _ _ _ _ _ => true

/-- Since `s`, one answer has been taken for each request in the transaction list of `t`. -/
structure TookAnswers (s t : State) : Prop where
  searchAnswers : t.searchAnswers = s.searchAnswers.drop (t.txns.countP Exchange.isSearch)
  txnAnswers    : t.txnAnswers = s.txnAnswers.drop (t.txns.countP Exchange.isTxn)
  draws         : t.draws = s.draws + t.txns.length

theorem TookAnswers.begin (s : State) : TookAnswers s s.begin := ⟨rfl, rfl, rfl⟩

theorem TookAnswers.busSearch {s t : State} (h : TookAnswers s t) (first : Bool) :
    TookAnswers s (t.busSearch first) where
  searchAnswers := by simp [h.searchAnswers, Exchange.isSearch]
  txnAnswers := by simp [h.txnAnswers, Exchange.isTxn]
  draws := by simp [h.draws, Nat.add_assoc]

theorem TookAnswers.busTxn {s t : State} (h : TookAnswers s t) (cmd8 : Byte) (wdata : List Byte) (rlen : Nat) :
    TookAnswers s (t.busTxn cmd8 wdata rlen) where
  searchAnswers := by simp [h.searchAnswers, Exchange.isSearch]
  txnAnswers := by simp [h.txnAnswers, Exchange.isTxn]
  draws := by simp [h.draws, Nat.add_assoc]

theorem SameTransport.tookAnswers {s u t : State} (h : SameTransport u t) (hu : TookAnswers s u) : TookAnswers s t where
  searchAnswers := by rw [h.searchAnswers, h.txns, hu.searchAnswers]
  txnAnswers := by rw [h.txnAnswers, h.txns, hu.txnAnswers]
  draws := by rw [h.draws, h.txns, hu.draws]

theorem TransportAfter.tookAnswers {s t : State} {i : Instr} (h : TransportAfter s i t) (hi : IssuesRequests i) :
    TookAnswers s t := by
  have hbegin := TookAnswers.begin s
  cases h with
  | untouched _ _ hn => exact absurd hi hn
  | silent _ _ _ h => exact h.tookAnswers hbegin
  | searched _ first _ _ h => exact h.tookAnswers (hbegin.busSearch first)
  | converted _ _ _ h => exact h.tookAnswers (hbegin.busTxn _ _ _)
  | fetched _ _ _ h => exact h.tookAnswers (hbegin.busTxn _ _ _)
  | writtenBack _ _ _ _ h => exact h.tookAnswers ((hbegin.busTxn _ _ _).busTxn _ _ _)
  | written _ h => exact h.tookAnswers (hbegin.busTxn _ _ _)

/-- A family or configuration code leaves the transport alone. -/
theorem TransportAfter.sameTransport {s t : State} {i : Instr} (h : TransportAfter s i t) (hi : ¬ IssuesRequests i) :
    SameTransport s t := by
  cases h with
  | untouched _ _ _ h => exact h
  | silent _ _ hc => exact absurd (.inl hc) hi
  | searched _ _ _ hid => rcases hid with ⟨rfl, -⟩ | ⟨rfl, -⟩ <;> exact absurd (.inl rfl) hi
  | converted _ _ hc => rcases hc with rfl | rfl <;> simp [IssuesRequests, Instr.isCommand] at hi
  | fetched _ _ hf => rcases hf with ⟨n, rfl⟩ | rfl | rfl | rfl <;> simp [IssuesRequests, Instr.isCommand] at hi
  | writtenBack => exact absurd (.inl rfl) hi
  | written => exact absurd (.inr (.inr (.inr rfl))) hi

/-! ### A transaction that reads nothing -/

/-- What a transaction that reads no bytes records of its answer (R58). -/
def TxnAnswer.acknowledged : TxnAnswer → Option (List Byte)
  | .fail => none
  | .ok _ => some []

theorem rdata_zero (a : TxnAnswer) : TxnAnswer.rdata 0 a = TxnAnswer.acknowledged a := by
  cases a with
  | fail => rfl
  | ok sp => exact rdata_ok_zero sp

theorem begin_busTxn_txns (s : State) (cmd8 : Byte) (wdata : List Byte) :
    (s.begin.busTxn cmd8 wdata 0).txns = [.txn s.blk.sel cmd8 wdata 0 (TxnAnswer.acknowledged s.txnAnswer)] := by
  rw [State.busTxn_txns, rdata_zero]
  rfl

/-! ### Settled -/

/-- Settles O44: each request takes its answer (`TookAnswers`), and a code issues none. -/
theorem eachRequestTakesTheNextAnswer : Obligations.EachRequestTakesTheNextAnswer := by
  unfold Obligations.EachRequestTakesTheNextAnswer
  intro i s t h
  have ht := exec_transportAfter h
  refine ⟨fun hi => ?_, fun hc hconvert hread hwrite => ?_⟩
  · obtain ⟨hsearch, htxn, hdraws⟩ := ht.tookAnswers hi
    exact ⟨hsearch, htxn, hdraws⟩
  · obtain ⟨hsearch, htxn, hdraws, htxns⟩ := ht.sameTransport (by simp [IssuesRequests, hc, hconvert, hread, hwrite])
    exact ⟨hsearch, htxn, hdraws, htxns⟩

/-- Settles O39: of the sequences of requests a command can issue, the one of two is 0xBE and 0x4E. -/
theorem transactionsHaveTheWidthsOfTheTable : Obligations.TransactionsHaveTheWidthsOfTheTable := by
  unfold Obligations.TransactionsHaveTheWidthsOfTheTable
  intro i s t hi h
  have ht := exec_transportAfter h
  cases ht with
  | untouched _ _ hn => exact absurd (.inl hi) hn
  | written => cases hi
  | silent _ _ _ h =>
    rw [h.txns]
    exact ⟨.inl (Nat.zero_le 1), .nil, by simp⟩
  | searched _ first _ _ h =>
    rw [h.txns]
    exact ⟨.inl le_rfl, List.pairwise_singleton _ _, by simp⟩
  | converted _ _ _ h =>
    rw [h.txns]
    refine ⟨.inl le_rfl, List.pairwise_singleton _ _, fun sel cmd8 wdata rlen answer hmem => ?_⟩
    cases List.mem_singleton.1 hmem
    exact .inl ⟨rfl, rfl, rfl⟩
  | fetched _ _ _ h =>
    rw [h.txns]
    refine ⟨.inl le_rfl, List.pairwise_singleton _ _, fun sel cmd8 wdata rlen answer hmem => ?_⟩
    cases List.mem_singleton.1 hmem
    exact .inr (.inl ⟨rfl, rfl, rfl⟩)
  | writtenBack n _ sp hsp h =>
    rw [h.txns]
    have hbytes : busReadScratchpad ≠ busWriteScratchpad := by decide
    refine ⟨.inr ⟨rfl, n, rfl⟩, List.pairwise_pair.2 hbytes, fun sel cmd8 wdata rlen answer hmem => ?_⟩
    obtain hread | hwrite := List.mem_pair.1 hmem
    · cases hread
      exact .inr (.inl ⟨rfl, rfl, rfl⟩)
    · cases hwrite
      exact .inr (.inr ⟨rfl, rfl, sp, hsp, rfl⟩)

/-- Settles O50: the list of a lone bus byte is its one transaction, and `SP` takes what 0xBE was answered. -/
theorem busRowsIssueTheirTransaction : Obligations.BusRowsIssueTheirTransaction := by
  unfold Obligations.BusRowsIssueTheirTransaction
  intro s
  refine ⟨?convert, fun ha => ?readFailed, fun sp ha => ?read, fun sp hsp => ?write, fun _ => ?writeFree⟩
  case convert => exact ⟨_, rfl, rfl, begin_busTxn_txns s _ _⟩
  case readFailed => exact ⟨s.begin.readScratchpad, by simp [exec, execBusRead, ha], rfl, by simp [ha]⟩
  case read =>
    exact ⟨s.begin.readScratchpad.setBlk (s.blk.setSp sp), by simp [exec, execBusRead, ha], rfl, by simp [ha]⟩
  case write => exact ⟨_, rfl, rfl, spOrFree_of_some s sp hsp ▸ begin_busTxn_txns s _ _⟩
  case writeFree => exact ⟨_, _, _, _, rfl, rfl, begin_busTxn_txns s _ _⟩

end Sys2Proof.Machine
end

section
/-! PROOFS. The decoder and the encoder invert each other (R70 to R75, R79, R80). -/

namespace Sys2Proof

/-! ### Decoding an encoding -/

theorem decode_setres (b : Byte) : decode (.command (0x40#8 ++ b)) = .instr (.setres b.toInt) := by
  simp [decode, decodeCommand, decodeOp]

theorem setres_wellFormed_iff (n : Int) : (Instr.setres n).wellFormed = true ↔ -128 ≤ n ∧ n ≤ 127 := by
  simp [Instr.wellFormed]

theorem setres_toInt_wellFormed (imm : Byte) : (Instr.setres imm.toInt).wellFormed = true := by
  have hlow : -128 ≤ imm.toInt := imm.le_toInt
  have hhigh : imm.toInt < 128 := imm.toInt_lt
  exact (setres_wellFormed_iff _).2 ⟨hlow, by omega⟩

/-- R72: a signed byte is what its two's complement encoding reads back as. -/
theorem toInt_ofInt_of_wellFormed {n : Int} (h : (Instr.setres n).wellFormed = true) : (BitVec.ofInt 8 n).toInt = n := by
  obtain ⟨hlow, hhigh⟩ := (setres_wellFormed_iff n).1 h
  exact BitVec.toInt_ofInt_eq_self (by decide) hlow (by omega)

theorem decode_encode {i : Instr} (h : i.wellFormed = true) : decode (encode i) = .instr i := by
  cases i with
  | setres n => rw [encode, decode_setres, toInt_ofInt_of_wellFormed h]
  | cfgRes9 bit7 low | cfgRes10 bit7 low | cfgRes11 bit7 low | cfgRes12 bit7 low =>
    simp [encode, decode, decodeConfig, configByte_bit7, configByte_field, configByte_low]
  | identifyFirst | identifyNext | assertS | assertB | isPresent | convert | read | readc | family10 | family28
  | family22 | busConvert | busRead | busWrite => rfl

/-! ### Encoding what was decoded -/

theorem word_eq_fields (w : Word16) : (opField w ++ zField w) ++ immField w = w := by
  have hhigh : opField w ++ zField w = w.extractLsb' 8 8 := BitVec.extractLsb'_append_extractLsb'_eq_extractLsb' rfl
  rw [hhigh]
  exact BitVec.extractLsb'_append_extractLsb'

theorem configByte_eta (b : Byte) :
    configByte (b.extractLsb' 7 1) (b.extractLsb' 5 2) (b.extractLsb' 0 5) = b := by
  revert b; decide

theorem decodeNoOperand_instr {i j : Instr} {imm : Byte} (h : decodeNoOperand i imm = .instr j) :
    j = i ∧ imm = 0#8 := by
  unfold decodeNoOperand at h
  split_ifs at h with himm
  cases h
  exact ⟨rfl, himm⟩

/-- The byte of `IDENTIFY` is 0x01 or 0x00. -/
theorem decodeIdentify_eq (imm : Byte) : decodeIdentify imm =
    if imm = 0x01#8 then .instr .identifyFirst else decodeNoOperand .identifyNext imm := by
  revert imm; decide

theorem decodeIdentify_instr {i : Instr} {imm : Byte} (h : decodeIdentify imm = .instr i) :
    (i = .identifyFirst ∧ imm = 0x01#8) ∨ (i = .identifyNext ∧ imm = 0x00#8) := by
  rw [decodeIdentify_eq] at h
  split_ifs at h with hfirst
  · cases h; exact .inl ⟨rfl, hfirst⟩
  · exact .inr (decodeNoOperand_instr h)

/-- The byte of `ASSERT` is 0x01 or 0x02. -/
theorem decodeAssert_eq (imm : Byte) : decodeAssert imm =
    if imm = 0x01#8 then .instr .assertS
    else if imm = 0x02#8 then .instr .assertB
    else .reject (if imm.extractLsb' 2 6 = 0#6 then .badVariant else .operandBits) := by
  revert imm; decide

theorem decodeAssert_instr {i : Instr} {imm : Byte} (h : decodeAssert imm = .instr i) :
    (i = .assertS ∧ imm = 0x01#8) ∨ (i = .assertB ∧ imm = 0x02#8) := by
  rw [decodeAssert_eq] at h
  split_ifs at h with hs hb <;> cases h
  · exact .inl ⟨rfl, hs⟩
  · exact .inr ⟨rfl, hb⟩

theorem decodeOp_instr {op : BitVec 4} {imm : Byte} {i : Instr} (h : decodeOp op imm = .instr i) :
    i.wellFormed = true ∧ encode i = .command ((op ++ 0#4) ++ imm) := by
  unfold decodeOp at h
  split at h
  case h_1 hn =>
    cases (BitVec.toNat_eq_nat.1 hn).2
    obtain ⟨rfl, rfl⟩ | ⟨rfl, rfl⟩ := decodeIdentify_instr h <;> exact ⟨rfl, rfl⟩
  case h_2 hn =>
    cases (BitVec.toNat_eq_nat.1 hn).2
    obtain ⟨rfl, rfl⟩ | ⟨rfl, rfl⟩ := decodeAssert_instr h <;> exact ⟨rfl, rfl⟩
  case h_4 hn =>
    cases h
    cases (BitVec.toNat_eq_nat.1 hn).2
    exact ⟨setres_toInt_wellFormed imm, by rw [encode, BitVec.ofInt_toInt]; rfl⟩
  case h_3 hn | h_5 hn | h_6 hn | h_7 hn =>
    obtain ⟨rfl, rfl⟩ := decodeNoOperand_instr h
    cases (BitVec.toNat_eq_nat.1 hn).2
    exact ⟨rfl, rfl⟩
  case h_8 => cases h

theorem decodeCommand_instr {w : Word16} {i : Instr} (h : decodeCommand w = .instr i) :
    i.wellFormed = true ∧ encode i = .command w := by
  unfold decodeCommand at h
  split_ifs at h with hz
  rw [← word_eq_fields w, not_not.1 hz]
  exact decodeOp_instr h

theorem decodeFamily_instr {b : Byte} {i : Instr} (h : decodeFamily b = .instr i) :
    i.wellFormed = true ∧ encode i = .code .family b := by
  unfold decodeFamily at h
  split_ifs at h with h10 h28 h22 <;> cases h
  · exact h10 ▸ ⟨rfl, rfl⟩
  · exact h28 ▸ ⟨rfl, rfl⟩
  · exact h22 ▸ ⟨rfl, rfl⟩

theorem decodeBus_instr {b : Byte} {i : Instr} (h : decodeBus b = .instr i) :
    i.wellFormed = true ∧ encode i = .code .bus b := by
  unfold decodeBus at h
  split_ifs at h with hconvert hread hwrite <;> cases h
  · exact hconvert ▸ ⟨rfl, rfl⟩
  · exact hread ▸ ⟨rfl, rfl⟩
  · exact hwrite ▸ ⟨rfl, rfl⟩

/-- R80: every byte is a configuration byte. -/
theorem exists_encode_eq_config (b : Byte) : ∃ i : Instr, i.wellFormed = true ∧ encode i = .code .config b := by
  rw [← configByte_eta b]
  have hfield : ∀ f : BitVec 2, f = 0b00#2 ∨ f = 0b01#2 ∨ f = 0b10#2 ∨ f = 0b11#2 := by decide
  obtain hf | hf | hf | hf := hfield (b.extractLsb' 5 2) <;> rw [hf]
  · exact ⟨.cfgRes9 _ _, rfl, rfl⟩
  · exact ⟨.cfgRes10 _ _, rfl, rfl⟩
  · exact ⟨.cfgRes11 _ _, rfl, rfl⟩
  · exact ⟨.cfgRes12 _ _, rfl, rfl⟩

theorem decodeConfig_instr {b : Byte} {i : Instr} (h : decodeConfig b = .instr i) :
    i.wellFormed = true ∧ encode i = .code .config b := by
  obtain ⟨j, hj, hencode⟩ := exists_encode_eq_config b
  have hdecode : decodeConfig b = .instr j := by simpa [hencode, decode] using decode_encode hj
  cases h.symm.trans hdecode
  exact ⟨hj, hencode⟩

/-- A word that decodes is the encoding of a well-formed instruction. -/
theorem encode_of_decode {p : PortWord} {i : Instr} (h : decode p = .instr i) :
    i.wellFormed = true ∧ encode i = p := by
  rcases p with w | ⟨_ | _ | _, b⟩
  · exact decodeCommand_instr h
  · exact decodeFamily_instr h
  · exact decodeConfig_instr h
  · exact decodeBus_instr h

/-! ### Settled -/

/-- Settles O1, by `decode_encode`. -/
theorem decodeOfEncodeIsTheInstruction : Obligations.DecodeOfEncodeIsTheInstruction := by
  unfold Obligations.DecodeOfEncodeIsTheInstruction
  exact fun _ => decode_encode

/-- Settles O2, by `encode_of_decode`. -/
theorem decodedWordIsTheEncoding : Obligations.DecodedWordIsTheEncoding := by
  unfold Obligations.DecodedWordIsTheEncoding
  exact fun _ _ => encode_of_decode

end Sys2Proof
end

section
/-! PROOFS. The legal command words of R73 are the encodings of commands. -/

namespace Sys2Proof.Machine

theorem setres_word_toNat (b : Byte) : (0x40#8 ++ b).toNat = 0x4000 + b.toNat := by
  rw [BitVec.toNat_append, ← Nat.shiftLeft_add_eq_or_of_lt b.isLt]
  rfl

theorem not_illegalWord_setres (b : Byte) : ¬ IllegalWord (0x40#8 ++ b) := by
  have hb := b.isLt
  simp only [IllegalWord, setres_word_toNat]
  omega

theorem not_illegalWord_of_encode {i : Instr} {w : Word16} (h : encode i = .command w) : ¬ IllegalWord w := by
  cases i with
  | setres n => cases h; exact not_illegalWord_setres _
  | identifyFirst | identifyNext | assertS | assertB | isPresent | convert | read | readc =>
    cases h; simp [IllegalWord]
  | _ => cases h

/-- R73 and the opcode map of R71: eight words and the 256 words of SETRES. -/
theorem legalWord_cases {w : Word16} (h : ¬ IllegalWord w) :
    w.toNat = 0x1000 ∨ w.toNat = 0x1001 ∨ w.toNat = 0x2001 ∨ w.toNat = 0x2002 ∨ w.toNat = 0x3000 ∨
      w.toNat / 256 = 0x40 ∨ w.toNat = 0x5000 ∨ w.toNat = 0x6000 ∨ w.toNat = 0x7000 := by
  simp only [IllegalWord] at h
  omega

theorem setres_word_of_high {w : Word16} (h : w.toNat / 256 = 0x40) : 0x40#8 ++ immField w = w := by
  apply BitVec.eq_of_toNat_eq
  rw [setres_word_toNat, immField, BitVec.extractLsb'_toNat]
  simp only [Nat.shiftRight_zero]
  omega

theorem exists_encode_eq_command {w : Word16} (h : ¬ IllegalWord w) :
    ∃ i : Instr, i.isCommand = true ∧ i.wellFormed = true ∧ encode i = .command w := by
  have hword {k : Nat} (hk : w.toNat = k) : w = BitVec.ofNat 16 k := (BitVec.toNat_eq_nat.1 hk).2
  obtain hk | hk | hk | hk | hk | hhigh | hk | hk | hk := legalWord_cases h
  · exact ⟨.identifyNext, rfl, rfl, hword hk ▸ rfl⟩
  · exact ⟨.identifyFirst, rfl, rfl, hword hk ▸ rfl⟩
  · exact ⟨.assertS, rfl, rfl, hword hk ▸ rfl⟩
  · exact ⟨.assertB, rfl, rfl, hword hk ▸ rfl⟩
  · exact ⟨.isPresent, rfl, rfl, hword hk ▸ rfl⟩
  · exact ⟨.setres (immField w).toInt, rfl, setres_toInt_wellFormed _, by
      rw [encode, BitVec.ofInt_toInt, setres_word_of_high hhigh]⟩
  · exact ⟨.convert, rfl, rfl, hword hk ▸ rfl⟩
  · exact ⟨.read, rfl, rfl, hword hk ▸ rfl⟩
  · exact ⟨.readc, rfl, rfl, hword hk ▸ rfl⟩

theorem decode_illegalWord {w : Word16} (h : IllegalWord w) : ∃ r, decode (.command w) = .reject r := by
  cases hd : decode (.command w) with
  | instr i => exact absurd h (not_illegalWord_of_encode (encode_of_decode hd).2)
  | reject r => exact ⟨r, rfl⟩

/-! ### Settled -/

/-- Settles O3: what is encoded is legal, and what is legal is encoded. -/
theorem rejectedWordsAreTheIllegalOnes : Obligations.RejectedWordsAreTheIllegalOnes := by
  unfold Obligations.RejectedWordsAreTheIllegalOnes
  refine fun w => ⟨fun hw => ?_, fun hw => ?_⟩
  · obtain ⟨r, hr⟩ := decode_illegalWord hw
    exact ⟨⟨r, hr⟩, fun s => runWord_reject _ r s hr⟩
  · obtain ⟨i, hi, hwf, hencode⟩ := exists_encode_eq_command hw
    exact ⟨i, hencode ▸ decode_encode hwf, hi⟩

/-- Settles O4: sixteen closed words, evaluated. -/
theorem wordsOfTheSyntaxTableDecode : Obligations.WordsOfTheSyntaxTableDecode := by
  unfold Obligations.WordsOfTheSyntaxTableDecode
  decide

end Sys2Proof.Machine
end

section
/-! PROOFS. The assembler gives the words of the encoder (R83). -/

namespace Sys2Proof.Machine

theorem ofInt_and_low_byte (n : Int) : BitVec.ofInt 16 n &&& 0xFF#16 = (BitVec.ofInt 8 n).setWidth 16 := by
  have hmask : (BitVec.ofInt 16 n).toNat &&& 0xFF = (BitVec.ofInt 16 n).toNat % 2 ^ 8 :=
    Nat.and_two_pow_sub_one_eq_mod _ 8
  apply BitVec.eq_of_toNat_eq
  calc (BitVec.ofInt 16 n &&& 0xFF#16).toNat = (BitVec.ofInt 16 n).toNat % 2 ^ 8 := hmask
    _ = (BitVec.ofInt 8 n).toNat % 2 ^ 16 := by
      simp only [BitVec.toNat_ofInt]
      omega
    _ = ((BitVec.ofInt 8 n).setWidth 16).toNat := (BitVec.toNat_setWidth _ _).symm

/-- R72: the operand of SETRES is the low byte of the request, under the opcode byte 0x40. -/
theorem setres_word_eq_append (n : Int) :
    0x4000#16 ||| (BitVec.ofInt 16 n &&& 0xFF#16) = 0x40#8 ++ BitVec.ofInt 8 n := by
  calc 0x4000#16 ||| (BitVec.ofInt 16 n &&& 0xFF#16)
      = (0x40#8).setWidth 16 <<< 8 ||| (BitVec.ofInt 8 n).setWidth 16 := by rw [ofInt_and_low_byte]; rfl
    _ = (0x40#8 ++ BitVec.ofInt 8 n).setWidth 16 := BitVec.setWidth_append_eq_shiftLeft_setWidth_or.symm
    _ = 0x40#8 ++ BitVec.ofInt 8 n := BitVec.setWidth_eq _

theorem assemble_setres_eq_none_iff (n : Int) : assemble (.setres n) = none ↔ n < -128 ∨ 127 < n := by
  simp only [assemble, ite_eq_right_iff, reduceCtorEq, imp_false]
  omega

theorem assemble_eq_none_iff (line : AsmLine) :
    assemble line = none ↔ ∃ n, line = .setres n ∧ (n < -128 ∨ 127 < n) := by
  cases line with
  | setres n => simp [assemble_setres_eq_none_iff]
  | identify first => rcases first with _ | _ | _ <;> simp [assemble]
  | _ => simp [assemble]

/-- A line that is not `.word` assembles to the encoding of the instruction it spells. -/
theorem assemble_eq_encode {line : AsmLine} {w : Word16} (h : assemble line = some w) :
    line = .word w ∨ ∃ i, asmInstr line = some i ∧ i.wellFormed = true ∧ encode i = .command w := by
  cases line with
  | identify first => rcases first with _ | _ | _ <;> cases h <;> exact .inr ⟨_, rfl, rfl, rfl⟩
  | setres n =>
    simp only [assemble, Option.ite_none_right_eq_some] at h
    obtain ⟨hn, hw⟩ := h
    cases hw
    have hwf := (setres_wellFormed_iff n).2 hn
    exact .inr ⟨.setres n, by simp [asmInstr, hwf], hwf, by rw [encode, setres_word_eq_append]⟩
  | word => cases h; exact .inl rfl
  | assertS | assertB | isPresent | convert | read | readc => cases h; exact .inr ⟨_, rfl, rfl, rfl⟩

/-- Settles O5: the assembler agrees with the encoder, and decoding an encoding gives the instruction back. -/
theorem assembledLineDecodesToItsInstruction : Obligations.AssembledLineDecodesToItsInstruction := by
  unfold Obligations.AssembledLineDecodesToItsInstruction
  refine fun line => ⟨assemble_eq_none_iff line, fun w hw => (assemble_eq_encode hw).imp_right ?_⟩
  rintro ⟨i, hi, hwf, hencode⟩
  exact ⟨i, hi, hencode ▸ decode_encode hwf⟩

end Sys2Proof.Machine
end

section
/-! PROOFS. The bus bytes of each command and whom they select (R59, R79). -/

namespace Sys2Proof.Machine

/-- R59: the selection by `ADDR_VALID`. -/
theorem sel_by_addrValid (b : Block) :
    (b.addrValid = true → ∃ a, b.addr = some a ∧ b.sel = .matchAddr a) ∧ (b.addrValid = false → b.sel = .skip) := by
  cases ha : b.addr with
  | none => simp [Block.addrValid, ha, sel_of_no_addr]
  | some a => simp [Block.addrValid, ha, sel_of_addr b a ha]

/-- The transactions of a command, each with the command it comes from. -/
theorem TransportAfter.txn_of_command {s t : State} {i : Instr} (h : TransportAfter s i t) (hi : i.isCommand = true)
    {sel : Sel} {cmd8 : Byte} {wdata : List Byte} {rlen : Nat} {answer : Option (List Byte)}
    (hmem : Exchange.txn sel cmd8 wdata rlen answer ∈ t.txns) :
    sel = s.blk.sel ∧ ((cmd8 = busStartConversion ∧ i = .convert) ∨
      (cmd8 = busReadScratchpad ∧ ((∃ n, i = .setres n) ∨ i = .read ∨ i = .readc)) ∨
      (cmd8 = busWriteScratchpad ∧ ∃ n, i = .setres n)) := by
  cases h with
  | untouched _ _ hn => exact absurd (.inl hi) hn
  | written => cases hi
  | silent _ _ _ h => rw [h.txns] at hmem; cases hmem
  | searched _ first _ _ h => rw [h.txns] at hmem; cases List.mem_singleton.1 hmem
  | converted _ _ hc h =>
    rw [h.txns] at hmem
    cases List.mem_singleton.1 hmem
    obtain rfl | rfl := hc
    · exact ⟨rfl, .inl ⟨rfl, rfl⟩⟩
    · cases hi
  | fetched _ _ hf h =>
    rw [h.txns] at hmem
    cases List.mem_singleton.1 hmem
    obtain hsetres | hread | hreadc | rfl := hf
    · exact ⟨rfl, .inr (.inl ⟨rfl, .inl hsetres⟩)⟩
    · exact ⟨rfl, .inr (.inl ⟨rfl, .inr (.inl hread)⟩)⟩
    · exact ⟨rfl, .inr (.inl ⟨rfl, .inr (.inr hreadc)⟩)⟩
    · cases hi
  | writtenBack n _ sp _ h =>
    rw [h.txns] at hmem
    obtain hread | hwrite := List.mem_pair.1 hmem
    · cases hread
      exact ⟨rfl, .inr (.inl ⟨rfl, .inl ⟨n, rfl⟩⟩)⟩
    · cases hwrite
      exact ⟨rfl, .inr (.inr ⟨rfl, n, rfl⟩)⟩

/-- Settles O38, from the transactions of a command and the selection by `ADDR_VALID`. -/
theorem commandsIssueOnlyTheirBusBytes : Obligations.CommandsIssueOnlyTheirBusBytes := by
  unfold Obligations.CommandsIssueOnlyTheirBusBytes
  intro i s t hi h sel cmd8 wdata rlen answer hmem
  obtain ⟨rfl, hbyte⟩ := (exec_transportAfter h).txn_of_command hi hmem
  exact ⟨hbyte, sel_by_addrValid s.blk⟩

end Sys2Proof.Machine
end

section
/-! PROOFS. The ModelS word as a number, and the configuration byte by its field (R80, R162, R163, R168). -/

namespace Sys2Proof.Machine

/-! ### The ModelS word -/

theorem rawS1_toNat (sp : Scratchpad) : (rawS1 sp).toNat = 8 * (raw0 sp).toNat % 65536 := by
  rw [rawS1, BitVec.toNat_shiftLeft, Nat.shiftLeft_eq]
  omega

theorem scale_toNat (raw : Word16) : (scale raw).toNat = 16 * raw.toNat % 65536 := by
  rw [scale, BitVec.toNat_shiftLeft, Nat.shiftLeft_eq]
  omega

theorem and_fff0_toNat (x : Word16) : (x &&& 0xFFF0#16).toNat = x.toNat / 16 * 16 := by
  have hmask : 0xFFF0#16 = BitVec.allOnes 16 <<< 4 := rfl
  have hx := x.isLt
  rw [hmask, ← BitVec.shiftLeft_ushiftRight, BitVec.toNat_shiftLeft, BitVec.toNat_ushiftRight,
    Nat.shiftLeft_eq, Nat.shiftRight_eq_div_pow]
  omega

/-- R78: the correction of R163 as a number, narrowed to 16 bits. -/
theorem correction_toNat (x : Word16) (c : Byte) :
    (((x &&& 0xFFF0#16) + 12#16 - c.setWidth 16).toNat : Int) = ((x.toNat / 16 * 16 + 12 - c.toNat : Int)) % 65536 := by
  have hc := c.isLt
  rw [BitVec.toNat_sub, BitVec.toNat_add, and_fff0_toNat, BitVec.toNat_setWidth]
  simp only [BitVec.toNat_ofNat]
  omega

/-- R162, R163: stage 2 of ModelS. -/
theorem rawS2_toNat (sp : Scratchpad) : ((rawS2 sp).toNat : Int) =
    (if sp.countPerC = 0x10#8 then (8 * (raw0 sp).toNat % 65536) / 16 * 16 + 12 - sp.countRemain.toNat
      else 8 * (raw0 sp).toNat : Int) % 65536 := by
  unfold rawS2
  split
  · rw [correction_toNat, rawS1_toNat]
    omega
  · rw [rawS1_toNat]
    omega

/-- Settles O25: the word is the scaled stage 2. -/
theorem modelSDecodesByTheCountRemainFormula : Obligations.ModelSDecodesByTheCountRemainFormula := by
  unfold Obligations.ModelSDecodesByTheCountRemainFormula
  rintro sp raw x hraw hx
  have hraw0 : raw = (raw0 sp).toNat := by rw [raw0_toNat]; omega
  have hrawS2 := rawS2_toNat sp
  rw [← hraw0, ← hx] at hrawS2
  refine ⟨scale (rawS2 sp), decodeTemp_modelS sp, ?_⟩
  rw [scale_toNat]
  omega

/-! ### The configuration rows -/

theorem activeResolution_configByte (bit7 : BitVec 1) (field : BitVec 2) (low : BitVec 5) :
    activeResolution (configByte bit7 field low) = 9#4 + field.setWidth 4 := by
  rw [activeResolution, cfgRes, configByte_field]

/-- The mask depends on the field alone (R80). -/
theorem activeMask_configByte (bit7 : BitVec 1) (field : BitVec 2) (low : BitVec 5) :
    activeMask (configByte bit7 field low) = activeMask (configByte 0#1 field 0#5) := by
  simp only [activeMask, Laws.TableRow.configByte_masked]

theorem driveConfig_configByte (s : State) (bit7 : BitVec 1) (field : BitVec 2) (low : BitVec 5) :
    s.driveConfig (configByte bit7 field low) =
      { s with unitOut := .resolution (9#4 + field.setWidth 4) (activeMask (configByte 0#1 field 0#5)) } := by
  rw [State.driveConfig, activeResolution_configByte, activeMask_configByte]

/-- Settles O49: each row at its field. -/
theorem configurationRowsAnswerTheirResolution : Obligations.ConfigurationRowsAnswerTheirResolution := by
  unfold Obligations.ConfigurationRowsAnswerTheirResolution
  exact fun s bit7 low => ⟨congrArg _ (driveConfig_configByte s bit7 0b00#2 low),
    congrArg _ (driveConfig_configByte s bit7 0b01#2 low), congrArg _ (driveConfig_configByte s bit7 0b10#2 low),
    congrArg _ (driveConfig_configByte s bit7 0b11#2 low)⟩

end Sys2Proof.Machine
end

section
/-! PROOFS. The family rows and the dispatch multiplexer (R104 to R106). -/

namespace Sys2Proof.Machine

/-- R104: the family codes with a row, and the variant of each. -/
theorem dispatch_of_row {fc : Byte} {v : Variant}
    (h : (fc = 0x10#8 ∧ v = .modelS) ∨ (fc = 0x28#8 ∧ v = .modelB) ∨ (fc = 0x22#8 ∧ v = .modelB)) :
    dispatch fc = v ∧ v ≠ .unsupported := by
  obtain ⟨rfl, rfl⟩ | ⟨rfl, rfl⟩ | ⟨rfl, rfl⟩ := h <;> exact ⟨rfl, by decide⟩

theorem dispatch_of_no_row {fc : Byte} (h10 : fc ≠ 0x10#8) (h28 : fc ≠ 0x28#8) (h22 : fc ≠ 0x22#8) :
    dispatch fc = .unsupported := by
  obtain ⟨h, -⟩ | ⟨h | h, -⟩ | ⟨-, -, -, hd⟩ := dispatch_cases fc
  · exact absurd h h10
  · exact absurd h h28
  · exact absurd h h22
  · exact hd

/-- R105: a family code drives the multiplexer, with a row or without one. -/
theorem runWord_family (s : State) (fc : Byte) : runWord (.code .family fc) s = .next (s.driveMux fc) := by
  cases hd : decode (.code .family fc) with
  | reject r => exact runWord_reject _ r s hd
  | instr i =>
    rw [runWord_instr _ i s hd]
    obtain ⟨-, hencode⟩ := encode_of_decode hd
    cases i with
    | family10 | family28 | family22 => cases hencode; rfl
    | _ => cases hencode

/-- Settles O18: the output bits of each group of family codes (`dispatch_cases`). -/
theorem multiplexerAnswersEveryFamilyCode : Obligations.MultiplexerAnswersEveryFamilyCode := by
  unfold Obligations.MultiplexerAnswersEveryFamilyCode
  refine fun s fc => ⟨_, dispatch fc, runWord_family s fc, rfl, ?_⟩
  obtain ⟨rfl, hd⟩ | ⟨rfl | rfl, hd⟩ | ⟨h10, h28, h22, hd⟩ := dispatch_cases fc
  · decide
  · decide
  · decide
  · simp [hd, h10, h28, h22, Variant.code]

/-- Settles O48: three closed family codes, evaluated at the multiplexer. -/
theorem familyRowsAnswerTheirVariant : Obligations.FamilyRowsAnswerTheirVariant := by
  unfold Obligations.FamilyRowsAnswerTheirVariant
  exact fun s => ⟨rfl, rfl, rfl⟩

end Sys2Proof.Machine
end

section
/-! PROOFS. Identification: IDENTIFY, ASSERT and ISPRESENT (R108 to R120). -/

namespace Sys2Proof.Machine

/-! ### IDENTIFY -/

theorem exec_identify (s : State) (first : Bool) :
    exec (if first then .identifyFirst else .identifyNext) s = .next (s.identify first) := by
  cases first <;> rfl

theorem exec_identify_present {s : State} (hp : s.blk.present = true) (first : Bool) :
    exec (if first then .identifyFirst else .identifyNext) s = .next (s.begin.finish .illegalState) := by
  rw [exec_identify, identify_present s first hp]

/-- On an absent handle IDENTIFY ends as the checks on the search's answer say. -/
theorem exec_identify_absent {s t : State} {answer : Option Address} (hp : s.blk.present = false)
    (ha : s.searchAnswer = answer) (first : Bool) (ht : (s.begin.busSearch first).identifyAnswer answer = t) :
    exec (if first then .identifyFirst else .identifyNext) s = .next t := by
  rw [exec_identify, identify_absent s first hp, ha, ht]

theorem addrOK_eq_false {a : Address} (h : Config.crc8 a.crcBytes ≠ a.crc) : addrOK a = false :=
  Bool.eq_false_iff.2 fun hc => h ((addrOK_iff a).1 hc)

/-- Settles O12: the checks on the search's answer, one law of `State.identifyAnswer` for each. -/
theorem identifyInItsFiveOutcomes : Obligations.IdentifyInItsFiveOutcomes := by
  unfold Obligations.IdentifyInItsFiveOutcomes
  refine ⟨decode_encode (i := .identifyFirst) rfl, decode_encode (i := .identifyNext) rfl, ?_⟩
  rintro s first i rfl
  refine ⟨fun hp => ?present, fun hp ha => ?noAddress, fun a hp ha hc => ?badCrc,
    fun a hp ha hc h10 h28 h22 => ?unsupported, fun a v hp ha hc hrow => ?identified⟩
  case present => exact ⟨_, exec_identify_present hp first, rfl, rfl⟩
  case noAddress => exact ⟨_, exec_identify_absent hp ha first (identifyAnswer_none _), rfl, by simp [ha]⟩
  case badCrc =>
    exact ⟨_, exec_identify_absent hp ha first (identifyAnswer_badCrc _ a (addrOK_eq_false hc)), rfl, by simp [ha]⟩
  case unsupported =>
    have hd := dispatch_of_no_row h10 h28 h22
    exact ⟨_, exec_identify_absent hp ha first (identifyAnswer_unsupported _ a ((addrOK_iff a).2 hc) hd), rfl,
      by simp [ha]⟩
  case identified =>
    obtain ⟨rfl, hd⟩ := dispatch_of_row hrow
    exact ⟨_, exec_identify_absent hp ha first (identifyAnswer_supported _ a ((addrOK_iff a).2 hc) hd), rfl,
      by simp [ha]⟩

/-- R110: an IDENTIFY that does not end OK writes `STATUS`, and beside it at most `VARIANT` with UNSUPPORTED. -/
theorem BlockAfter.of_failed_identify {s : State} {i : Instr} {b : Block} (h : BlockAfter s i b)
    (hi : i = .identifyFirst ∨ i = .identifyNext) (hst : b.status ≠ .ok) :
    b = s.blk.setStatus b.status ∨ b = (s.blk.setVariant .unsupported).setStatus b.status := by
  cases h with
  | statusOnly => exact .inl rfl
  | unsupported => exact .inr rfl
  | identified | asserted => exact absurd rfl hst
  | kept i hc => rcases hi with rfl | rfl <;> cases hc
  | notFetched i hr | temperatureRead i hr => rcases hi with rfl | rfl <;> simp at hr
  | busFetched | presenceCopied | writeFailed | resolutionSet | badCrc => simp at hi

/-- Settles O13: an absent block already holds the variant UNSUPPORTED that an IDENTIFY may write. -/
theorem failedIdentifyWritesOnlyStatus : Obligations.FailedIdentifyWritesOnlyStatus := by
  unfold Obligations.FailedIdentifyWritesOnlyStatus
  intro s t i hi hinv hp h hst
  obtain ⟨hvariant, haddr, -, -⟩ := hinv.absent_blank hp
  have hsame : s.blk.setVariant .unsupported = s.blk := by rw [Block.setVariant, ← hvariant]
  have hblk : t.blk = s.blk.setStatus t.blk.status := by
    obtain h | h := (exec_blockAfter h).of_failed_identify hi hst
    · exact h
    · rwa [hsame] at h
  refine ⟨hblk, ?_⟩
  rw [hblk]
  exact ⟨hp, by simp [Block.addrValid, haddr], haddr, hvariant⟩

/-! ### ASSERT and ISPRESENT -/

theorem exec_assert {i : Instr} {v : Variant} (h : (i = .assertS ∧ v = .modelS) ∨ (i = .assertB ∧ v = .modelB))
    (s : State) : exec i s = .next (s.assertVariant v) := by
  obtain ⟨rfl, rfl⟩ | ⟨rfl, rfl⟩ := h <;> rfl

theorem exec_assert_present {i : Instr} {v : Variant}
    (h : (i = .assertS ∧ v = .modelS) ∨ (i = .assertB ∧ v = .modelB)) {s : State} (hp : s.blk.present = true) :
    exec i s = .next (s.begin.finish .illegalState) := by
  rw [exec_assert h, assertVariant_present s v hp]

/-- Settles O14, by the two laws of `State.assertVariant`. -/
theorem assertSetsVariantAndPresence : Obligations.AssertSetsVariantAndPresence := by
  unfold Obligations.AssertSetsVariantAndPresence
  refine ⟨decode_encode (i := .assertS) rfl, decode_encode (i := .assertB) rfl,
    fun s i v hi => ⟨fun hp => ?_, fun hp => ?_⟩⟩
  · exact ⟨_, (exec_assert hi s).trans (congrArg _ (assertVariant_absent s v hp)), rfl, rfl⟩
  · exact ⟨_, exec_assert_present hi hp, rfl, rfl⟩

/-- Settles O15: `RESULT` takes the zero-extended bit. -/
theorem isPresentCopiesPresence : Obligations.IsPresentCopiesPresence := by
  unfold Obligations.IsPresentCopiesPresence
  refine ⟨decode_encode (i := .isPresent) rfl, fun s => ⟨_, rfl, ?_, rfl⟩⟩
  have hbit : (if s.blk.present then 0x00000001#32 else 0x00000000#32) = (BitVec.ofBool s.blk.present).setWidth 32 := by
    cases s.blk.present <;> rfl
  rw [hbit]
  rfl

/-! ### The identity of a present handle -/

/-- R118: each way to end that writes an identity register needs an absent handle. -/
theorem BlockAfter.identity_eq {s : State} {i : Instr} {b : Block} (h : BlockAfter s i b) (hp : s.blk.present = true) :
    b.present = s.blk.present ∧ b.variant = s.blk.variant ∧ b.addr = s.blk.addr := by
  cases h with
  | unsupported _ _ hn | identified _ _ hn | asserted _ _ _ hn => cases hp.symm.trans hn
  | _ => exact ⟨rfl, rfl, rfl⟩

/-- Settles O16, from the frame of the identity and the laws of IDENTIFY and ASSERT on a present handle. -/
theorem identityIsFixedWhilePresent : Obligations.IdentityIsFixedWhilePresent := by
  unfold Obligations.IdentityIsFixedWhilePresent
  refine fun s hp => ⟨fun i t h => ?_, fun i hi => ⟨s.begin.finish .illegalState, ?_, rfl, rfl⟩⟩
  · obtain ⟨hpresent, hvariant, haddr⟩ := (exec_blockAfter h).identity_eq hp
    exact ⟨hpresent.trans hp, hvariant, haddr, congrArg Option.isSome haddr⟩
  · obtain rfl | rfl | rfl | rfl := hi
    · exact exec_identify_present hp true
    · exact exec_identify_present hp false
    · exact exec_assert_present (.inl ⟨rfl, rfl⟩) hp
    · exact exec_assert_present (.inr ⟨rfl, rfl⟩) hp

end Sys2Proof.Machine
end

section
/-! PROOFS. The clamp and the configuration byte (R130, R132), and the mask that ModelB decode takes from the byte (R80, R165). -/

namespace Sys2Proof.Machine

/-! ### The clamp -/

/-- A 4-bit value that equals the clamped request as a number is the clamp in the form `RES` holds. -/
theorem eq_clamp {n : Int} {v : Variant} {r : BitVec 4} (h : (r.toNat : Int) = clampInt n v) : r = clamp n v :=
  BitVec.eq_of_toNat_eq (Int.ofNat_inj.1 (h.trans (clamp_toNat n v).symm))

/-- Settles O19, from the clamp as an integer and its range. -/
theorem clampGivesNineToTwelve : Obligations.ClampGivesNineToTwelve := by
  unfold Obligations.ClampGivesNineToTwelve
  intro n v
  have hclamp := clamp_toNat n v
  obtain ⟨hlow, hhigh⟩ := clampInt_range n v
  exact ⟨hclamp, by omega, by omega⟩

/-! ### The configuration byte by its field -/

theorem configByte_and (b b' : BitVec 1) (f f' : BitVec 2) (l l' : BitVec 5) :
    configByte b f l &&& configByte b' f' l' = configByte (b &&& b') (f &&& f') (l &&& l') :=
  BitVec.and_append.trans (congrArg (· ++ (l &&& l')) BitVec.and_append)

theorem configByte_or (b b' : BitVec 1) (f f' : BitVec 2) (l l' : BitVec 5) :
    configByte b f l ||| configByte b' f' l' = configByte (b ||| b') (f ||| f') (l ||| l') :=
  BitVec.or_append.trans (congrArg (· ++ (l ||| l')) BitVec.or_append)

theorem configByte_toNat (b : BitVec 1) (f : BitVec 2) (l : BitVec 5) :
    (configByte b f l).toNat = 128 * b.toNat + 32 * f.toNat + l.toNat := by
  rw [configByte, BitVec.toNat_append, ← Nat.shiftLeft_add_eq_or_of_lt l.isLt, BitVec.toNat_append,
    ← Nat.shiftLeft_add_eq_or_of_lt f.isLt, Nat.shiftLeft_eq, Nat.shiftLeft_eq]
  omega

/-- The two bits that a resolution is coded in. -/
def resBits (r : BitVec 4) : BitVec 2 := (r - 9#4).setWidth 2

theorem resBits_toNat {r : BitVec 4} (hlow : 9 ≤ r.toNat) (hhigh : r.toNat ≤ 12) : (resBits r).toNat = r.toNat - 9 := by
  revert r; decide

/-- R132: the field in its place. -/
theorem resField_eq_configByte {r : BitVec 4} (hlow : 9 ≤ r.toNat) (hhigh : r.toNat ≤ 12) :
    resField r = configByte 0#1 (resBits r) 0#5 := by
  revert r; decide

/-- R132: REPLACE puts a new field between the bits that it keeps. -/
theorem cfgCompute_replace_configByte (b : BitVec 1) (f : BitVec 2) (l : BitVec 5) {r : BitVec 4}
    (hlow : 9 ≤ r.toNat) (hhigh : r.toNat ≤ 12) :
    cfgCompute .replace (configByte b f l) r = configByte b (resBits r) l := by
  have hmask : 0x9F#8 = configByte (BitVec.allOnes 1) 0#2 (BitVec.allOnes 5) := by decide
  rw [cfgCompute, hmask, resField_eq_configByte hlow hhigh, configByte_and, configByte_or]
  simp only [BitVec.and_allOnes, BitVec.and_zero, BitVec.zero_or, BitVec.or_zero]

/-- R132: REPLACE as a number, for every byte. -/
theorem cfgCompute_replace_toNat (cfg : Byte) {r : BitVec 4} (hlow : 9 ≤ r.toNat) (hhigh : r.toNat ≤ 12) :
    (cfgCompute .replace cfg r).toNat = cfg.toNat / 128 * 128 + 32 * (r.toNat - 9) + cfg.toNat % 32 := by
  have hl := (cfg.extractLsb' 0 5).isLt
  have hf := (cfg.extractLsb' 5 2).isLt
  rw [← configByte_eta cfg, cfgCompute_replace_configByte _ _ _ hlow hhigh, configByte_toNat, configByte_toNat,
    resBits_toNat hlow hhigh]
  omega

/-- REPLACE on the zero byte is the field alone. -/
theorem cfgCompute_replace_zero (r : BitVec 4) : cfgCompute .replace 0x00#8 r = resField r := by
  simp only [cfgCompute, BitVec.zero_and, BitVec.zero_or]

/-- Settles O20: REPLACE as a number, and OR bit by bit. -/
theorem configurationByteKeepsTheOtherBits : Obligations.ConfigurationByteKeepsTheOtherBits := by
  unfold Obligations.ConfigurationByteKeepsTheOtherBits
  refine ⟨rfl, fun cfg r hlow hhigh => ?_⟩
  have hreplace := cfgCompute_replace_toNat cfg hlow hhigh
  have hcfg := cfg.isLt
  refine ⟨by omega, by omega, by omega, fun k _ => ?_, by decide⟩
  rw [cfgCompute_replace_zero, cfgCompute, BitVec.getLsbD_or, Bool.or_eq_true]

/-! ### The mask of ModelB decode -/

theorem and_allOnes_shiftLeft_toNat (x : Word16) (k : Nat) :
    (x &&& BitVec.allOnes 16 <<< k).toNat = x.toNat / 2 ^ k * 2 ^ k := by
  have hle : x.toNat / 2 ^ k * 2 ^ k < 2 ^ 16 := (Nat.div_mul_le_self _ _).trans_lt x.isLt
  rw [← BitVec.shiftLeft_ushiftRight, BitVec.toNat_shiftLeft, BitVec.toNat_ushiftRight, Nat.shiftLeft_eq,
    Nat.shiftRight_eq_div_pow, Nat.mod_eq_of_lt hle]

theorem activeMask_of_field (f : BitVec 2) :
    activeMask (configByte 0#1 f 0#5) = BitVec.allOnes 16 <<< (3 - f.toNat) := by
  revert f; decide

/-- R80, R165: the mask clears as many low bits as the field is below 3. -/
theorem activeMask_eq_shiftLeft (cfg : Byte) :
    activeMask cfg = BitVec.allOnes 16 <<< (3 - cfg.toNat / 32 % 4) := by
  have hl := (cfg.extractLsb' 0 5).isLt
  have hf := (cfg.extractLsb' 5 2).isLt
  rw [← configByte_eta cfg, activeMask_configByte, activeMask_of_field, configByte_toNat]
  congr
  omega

/-- R165: stage 2 of ModelB as a number. -/
theorem rawB_toNat (sp : Scratchpad) : (rawB sp).toNat =
    (raw0 sp).toNat / 2 ^ (3 - sp.config.toNat / 32 % 4) * 2 ^ (3 - sp.config.toNat / 32 % 4) := by
  rw [rawB, activeMask_eq_shiftLeft, and_allOnes_shiftLeft_toNat]

end Sys2Proof.Machine
end

section
/-! PROOFS. SETRES in its four outcomes, and the READ after it (R131 to R138). -/

namespace Sys2Proof.Machine

/-! ### What SETRES writes -/

/-- The bytes that SETRES leaves in `SP` and writes back: the bytes read, with the new configuration byte (R132, R137). -/
def mergedSp (sp : Scratchpad) (r : BitVec 4) : Scratchpad :=
  { sp with config := cfgCompute Config.cfgMerge sp.config r }

/-- R137: a failed write leaves the merged bytes in `SP` and keeps `RES`. -/
theorem writeBack_fail_blk {s : State} (h : s.txnAnswer = .fail) (sp : Scratchpad) (r : BitVec 4) :
    (s.writeBack sp r).blk = (s.blk.setSp (mergedSp sp r)).setStatus .transportError := by
  rw [writeBack_fail s sp r h]
  rfl

/-- R137: `RES` is written when the write is answered `OK`. -/
theorem writeBack_ok_blk {s : State} {x : Scratchpad} (h : s.txnAnswer = .ok x) (sp : Scratchpad) (r : BitVec 4) :
    (s.writeBack sp r).blk = ((s.blk.setSp (mergedSp sp r)).setRes r).setStatus .ok := by
  rw [writeBack_ok s sp x r h]
  rfl

/-- R133: bytes 2 and 3 as read and the new byte 4 are written, whatever the answer. -/
theorem writeBack_txns (s : State) (sp : Scratchpad) (r : BitVec 4) :
    (s.writeBack sp r).txns = s.txns ++ [.txn s.blk.sel busWriteScratchpad
      [sp.tripHigh, sp.tripLow, cfgCompute Config.cfgMerge sp.config r] 0 (TxnAnswer.acknowledged s.txnAnswer)] := by
  rw [← rdata_zero]
  cases h : s.txnAnswer with
  | fail => rw [writeBack_fail s sp r h, ← h]; rfl
  | ok x => rw [writeBack_ok s sp x r h, ← h]; rfl

/-- R55: the read transaction that a command starts with, answered with `sp`. -/
theorem begin_readScratchpad_txns {s : State} {sp : Scratchpad} (ha : s.txnAnswer = .ok sp) :
    s.begin.readScratchpad.txns = [.txn s.blk.sel busReadScratchpad [] 9 (some sp.bytes)] := by
  rw [← rdata_ok_nine, ← ha]
  rfl

/-- R55, R133: the two transactions of a SETRES whose read was answered with `sp`. -/
theorem writeBack_after_read_txns {s : State} {sp : Scratchpad} (ha : s.txnAnswer = .ok sp) (r : BitVec 4) :
    (s.begin.readScratchpad.writeBack sp r).txns =
      [.txn s.blk.sel busReadScratchpad [] 9 (some sp.bytes),
        .txn s.blk.sel busWriteScratchpad [sp.tripHigh, sp.tripLow, cfgCompute Config.cfgMerge sp.config r] 0
          (TxnAnswer.acknowledged s.readScratchpad.txnAnswer)] := by
  rw [writeBack_txns, begin_readScratchpad_txns ha]
  rfl

/-- Settles O21: the outcomes of `execSetres`, with the two of its write-back. -/
theorem setresInItsFourOutcomes : Obligations.SetresInItsFourOutcomes := by
  unfold Obligations.SetresInItsFourOutcomes
  refine ⟨decode_setres, fun s n r hr => ?_⟩
  obtain rfl : r = clamp n s.blk.variant := eq_clamp hr
  refine ⟨fun hp => ?absent, fun hp ha => ?readFailed, ?written⟩
  case absent => exact ⟨_, execSetres_absent n s hp, rfl, rfl⟩
  case readFailed => exact ⟨_, execSetres_fail n s hp ha, rfl, by simp [ha]⟩
  case written =>
    rintro sp c hp ha rfl
    have htxns := writeBack_after_read_txns ha (clamp n s.blk.variant)
    refine ⟨fun hw => ?_, fun x hw => ?_⟩
    · rw [hw] at htxns
      exact ⟨_, execSetres_ok n s sp hp ha, writeBack_fail_blk (s := s.begin.readScratchpad) hw sp _, htxns⟩
    · rw [hw] at htxns
      exact ⟨_, execSetres_ok n s sp hp ha, writeBack_ok_blk (s := s.begin.readScratchpad) hw sp _, htxns⟩

/-! ### The READ after it -/

/-- R134: a SETRES that ends OK has read some bytes and has written the configuration byte merged into them. -/
theorem exec_setres_ok_txns {s t : State} {n : Int} (h : exec (.setres n) s = .next t) (hst : t.blk.status = .ok) :
    ∃ sp : Scratchpad, t.txns =
      [.txn s.blk.sel busReadScratchpad [] 9 (some sp.bytes),
        .txn s.blk.sel busWriteScratchpad
          [sp.tripHigh, sp.tripLow, cfgCompute Config.cfgMerge sp.config (clamp n s.blk.variant)] 0 (some [])] := by
  obtain ⟨-, rfl⟩ | ⟨-, -, rfl⟩ | ⟨-, sp, ha, rfl⟩ := execSetres_next n s t h
  · cases hst
  · cases hst
  · refine ⟨sp, ?_⟩
    rw [writeBack_after_read_txns ha]
    cases hw : s.readScratchpad.txnAnswer with
    | fail =>
      rw [writeBack_fail_blk (s := s.begin.readScratchpad) hw] at hst
      cases hst
    | ok x => rfl

/-- D27: what a stable device delivers agrees with the bytes last read and with bytes 2 to 4 as last written. -/
theorem deviceStable_read (last written : Option (List Byte)) (sel : Sel) (wdata : List Byte) (rlen : Nat)
    (bytes : List Byte) (rest : List Exchange) :
    deviceStable last written (.txn sel busReadScratchpad wdata rlen (some bytes) :: rest) ↔
      (∀ x, last = some x → bytes = x) ∧ (∀ x, written = some x → (bytes.drop 2).take 3 = x) ∧
        deviceStable (some bytes) written rest := Iff.rfl

/-- D27: a write that is answered `OK` fixes bytes 2 to 4. -/
theorem deviceStable_write (last written : Option (List Byte)) (sel : Sel) (wdata : List Byte) (rlen : Nat)
    (ack : List Byte) (rest : List Exchange) :
    deviceStable last written (.txn sel busWriteScratchpad wdata rlen (some ack) :: rest) ↔
      deviceStable none (some wdata) rest := Iff.rfl

/-- R182: a READ of a present ModelB handle that is answered with `sp`. -/
theorem exec_read_modelB {s : State} {sp : Scratchpad} (hp : s.blk.present = true) (hv : s.blk.variant = .modelB)
    (ha : s.txnAnswer = .ok sp) : exec .read s = .next ((s.fetched sp).readDone (toFloat (scale (rawB sp)))) := by
  have hdecode : decodeTemp sp (s.fetched sp).blk.variant = some (toFloat (scale (rawB sp))) :=
    (congrArg (decodeTemp sp) hv).trans (decodeTemp_modelB sp)
  exact (execRead_ok s sp hp ha).trans ((reading_next _ _ _).2 ⟨_, hdecode, rfl⟩)

theorem bytes_two_to_four (sp : Scratchpad) : (sp.bytes.drop 2).take 3 = [sp.tripHigh, sp.tripLow, sp.config] := rfl

/-- R138: a READ of a stable ModelB handle fetches the configuration byte that the SETRES before it wrote. -/
theorem config_after_setres {s t u : State} {n : Int} {sp : Scratchpad} (hset : exec (.setres n) s = .next t)
    (hst : t.blk.status = .ok)
    (hread : u.txns = [.txn t.blk.sel busReadScratchpad [] 9 (some sp.bytes)])
    (hstable : deviceStable none none (t.txns ++ u.txns)) :
    ∃ old : Byte, sp.config = cfgCompute .replace old (clamp n s.blk.variant) := by
  obtain ⟨sp0, htxns⟩ := exec_setres_ok_txns hset hst
  rw [htxns, hread] at hstable
  obtain ⟨-, -, hafterRead⟩ := (deviceStable_read _ _ _ _ _ _ _).1 hstable
  have hafterWrite := (deviceStable_write _ _ _ _ _ _ _).1 hafterRead
  obtain ⟨-, hbytes, -⟩ := (deviceStable_read _ _ _ _ _ _ _).1 hafterWrite
  obtain ⟨-, -, hconfig⟩ : sp.tripHigh = sp0.tripHigh ∧ sp.tripLow = sp0.tripLow ∧ sp.config = _ := by
    simpa only [bytes_two_to_four, List.cons.injEq, and_true] using hbytes _ rfl
  exact ⟨sp0.config, hconfig⟩

/-- R138: ModelB stage 2 under a configuration byte that REPLACE has set to the resolution `r`. -/
theorem rawB_of_config {sp : Scratchpad} {old : Byte} {r : BitVec 4} (hlow : 9 ≤ r.toNat) (hhigh : r.toNat ≤ 12)
    (h : sp.config = cfgCompute .replace old r) :
    rawB sp = BitVec.ofNat 16 ((raw0 sp).toNat / 2 ^ (12 - r.toNat) * 2 ^ (12 - r.toNat)) := by
  have hconfig := cfgCompute_replace_toNat old hlow hhigh
  have hcleared : 3 - sp.config.toNat / 32 % 4 = 12 - r.toNat := by rw [h]; omega
  rw [← hcleared, ← rawB_toNat, BitVec.ofNat_toNat, BitVec.setWidth_eq]

/-- Settles O22: a stable device answers the READ with the configuration byte that SETRES wrote. -/
theorem readAfterSetresMasksTheRequestedBits : Obligations.ReadAfterSetresMasksTheRequestedBits := by
  unfold Obligations.ReadAfterSetresMasksTheRequestedBits
  intro s t u n sp hp hv hset hst hread ha hstable
  obtain ⟨hpresent, hvariant, -⟩ := (exec_blockAfter hset).identity_eq hp
  cases (exec_read_modelB (hpresent.trans hp) (hvariant.trans hv) ha).symm.trans hread
  obtain ⟨old, hconfig⟩ := config_after_setres hset hst (begin_readScratchpad_txns ha) hstable
  obtain ⟨hclamp, hlow, hhigh⟩ := clampGivesNineToTwelve n s.blk.variant
  have hrequest : (clamp n s.blk.variant).toNat = min 12 (max 9 n) := by simpa [hv] using hclamp
  refine ⟨rfl, 12 - (clamp n s.blk.variant).toNat, by omega, ?_⟩
  rw [← rawB_of_config hlow hhigh hconfig]
  rfl

end Sys2Proof.Machine
end

section
/-! PROOFS. CONVERT in its three outcomes (R151, R152). -/

namespace Sys2Proof.Machine

/-- R55, R152: the one transaction of a CONVERT on a present handle, by its answer. -/
theorem begin_startConversion_txns {s : State} {a : TxnAnswer} (ha : s.txnAnswer = a) :
    s.begin.startConversion.txns = [.txn s.blk.sel busStartConversion [] 0 (TxnAnswer.acknowledged a)] :=
  ha ▸ begin_busTxn_txns s _ _

/-- Settles O24: the laws of `execConvert`, one for each outcome. -/
theorem convertInItsThreeOutcomes : Obligations.ConvertInItsThreeOutcomes := by
  unfold Obligations.ConvertInItsThreeOutcomes
  refine ⟨decode_encode (i := .convert) rfl, fun s => ⟨fun hp => ?absent, fun hp ha => ?failed, fun x hp ha => ?started⟩⟩
  case absent => exact ⟨_, execConvert_absent s hp, rfl, rfl⟩
  case failed => exact ⟨_, execConvert_fail s hp ha, rfl, begin_startConversion_txns ha⟩
  case started => exact ⟨_, execConvert_ok s x hp ha, rfl, begin_startConversion_txns ha⟩

end Sys2Proof.Machine
end

section
/-! PROOFS. The decoder's words (R165, R166), what `ToFloat` makes of a word (R170 to R172), and the range in which the
temperature is a number of sixteenths (R175). -/

namespace Sys2Proof.Machine

/-! ### The refined words -/

/-- Settles O26: the word is the scaled stage 2 of ModelB. -/
theorem modelBDecodesByTheActiveResolution : Obligations.ModelBDecodesByTheActiveResolution := by
  unfold Obligations.ModelBDecodesByTheActiveResolution
  rintro sp _ _ rfl rfl
  refine ⟨scale (rawB sp), decodeTemp_modelB sp, ?_⟩
  rw [scale_toNat, rawB_toNat, raw0_toNat]

/-- R165: ModelB reads the field of byte 4 and the raw bits above the ones that the field clears. -/
theorem rawB_congr {p q : Scratchpad} (hfield : p.config.toNat / 32 % 4 = q.config.toNat / 32 % 4)
    (hraw : (raw0 p).toNat / 2 ^ (3 - p.config.toNat / 32 % 4) = (raw0 q).toNat / 2 ^ (3 - p.config.toNat / 32 % 4)) :
    rawB p = rawB q := by
  apply BitVec.eq_of_toNat_eq
  rw [rawB_toNat, rawB_toNat, hraw, hfield]

/-- R163, R166: ModelS reads bytes 0, 1 and 7, and byte 6 only where byte 7 is 0x10. -/
theorem rawS2_congr {p q : Scratchpad} (hlow : p.tempLow = q.tempLow) (hhigh : p.tempHigh = q.tempHigh)
    (hper : p.countPerC = q.countPerC) (hremain : p.countPerC = 0x10#8 → p.countRemain = q.countRemain) :
    rawS2 p = rawS2 q := by
  have hraw : rawS1 p = rawS1 q := by rw [rawS1, rawS1, raw0, raw0, hlow, hhigh]
  by_cases hc : p.countPerC = 0x10#8
  · rw [rawS2, rawS2, ← hper, if_pos hc, if_pos hc, hraw, hremain hc]
  · rw [rawS2, rawS2, ← hper, if_neg hc, if_neg hc, hraw]

/-- Settles O27: equal refined words decode alike. -/
theorem decoderReadsOnlyTheDefinedBits : Obligations.DecoderReadsOnlyTheDefinedBits := by
  unfold Obligations.DecoderReadsOnlyTheDefinedBits
  refine fun p q => ⟨fun hfield hraw => ?_, fun hlow hhigh hper hremain => ?_⟩
  · rw [decodeTemp_modelB, decodeTemp_modelB, rawB_congr hfield hraw]
  · rw [decodeTemp_modelS, decodeTemp_modelS, rawS2_congr hlow hhigh hper hremain]

/-! ### The magnitude of a word -/

theorem magnitude_eq_abs (w : Word16) : magnitude w = w.abs := by
  rw [magnitude, ← BitVec.neg_eq_not_add, BitVec.abs_eq, BitVec.msb_eq_getLsbD_last]

theorem magnitude_toNat (w : Word16) : (magnitude w).toNat = w.toInt.natAbs := by
  have hw := w.isLt
  rw [magnitude_eq_abs, BitVec.toNat_abs, BitVec.toInt_eq_msb_cond]
  split <;> omega

theorem magnitude_toNat_eq_zero_iff (w : Word16) : (magnitude w).toNat = 0 ↔ w = 0#16 := by
  rw [magnitude_toNat, Int.natAbs_eq_zero, ← BitVec.toInt_inj, BitVec.toInt_zero]

theorem magnitude_log2_lt (w : Word16) : (magnitude w).toNat.log2 < 16 := by
  by_cases hw : (magnitude w).toNat = 0
  · simp [hw]
  · exact (Nat.log2_lt hw).2 (magnitude w).isLt

/-! ### The three fields of the pattern -/

theorem toFloat_zero : toFloat 0#16 = 0#32 := rfl

section NonZero

variable {w : Word16} (hw : w ≠ 0#16)
include hw

theorem toFloat_eq_append : toFloat w = BitVec.ofBool w.msb ++
    BitVec.ofNat 8 ((magnitude w).toNat.log2 + 119) ++
    BitVec.ofNat 23 ((magnitude w).toNat <<< (23 - (magnitude w).toNat.log2)) :=
  if_neg ((magnitude_toNat_eq_zero_iff w).not.2 hw)

theorem toFloat_sign : (toFloat w).getLsbD 31 = w.msb := by
  rw [toFloat_eq_append hw, BitVec.getLsbD_append, BitVec.getLsbD_append]
  simp

/-- R172: a leading bit `e` of the magnitude counts `2 ^ (e - 8)`, whose exponent is coded with the bias 127. -/
theorem toFloat_exponent : ((toFloat w).extractLsb' 23 8).toNat = (magnitude w).toNat.log2 + 119 := by
  have hlog := magnitude_log2_lt w
  rw [toFloat_eq_append hw, BitVec.extractLsb'_append_eq_of_le le_rfl, Nat.sub_self,
    BitVec.extractLsb'_append_eq_right, BitVec.toNat_ofNat]
  omega

/-- R172: with the hidden bit, the fraction is the magnitude moved up to bit 23. -/
theorem toFloat_significand : 2 ^ 23 + ((toFloat w).extractLsb' 0 23).toNat =
    (magnitude w).toNat * 2 ^ (23 - (magnitude w).toNat.log2) := by
  have hm := (magnitude_toNat_eq_zero_iff w).not.2 hw
  have hlog := magnitude_log2_lt w
  rw [toFloat_eq_append hw, BitVec.extractLsb'_append_eq_right, BitVec.toNat_ofNat, Nat.shiftLeft_eq]
  generalize (magnitude w).toNat = m at hm hlog ⊢
  have hlow : 2 ^ 23 ≤ m * 2 ^ (23 - m.log2) := by
    calc 2 ^ 23 = 2 ^ m.log2 * 2 ^ (23 - m.log2) := by rw [← pow_add]; congr 1; omega
      _ ≤ m * 2 ^ (23 - m.log2) := Nat.mul_le_mul_right _ (Nat.log2_self_le hm)
  have hhigh : m * 2 ^ (23 - m.log2) < 2 ^ 24 := by
    calc m * 2 ^ (23 - m.log2) < 2 ^ (m.log2 + 1) * 2 ^ (23 - m.log2) :=
          Nat.mul_lt_mul_of_pos_right Nat.lt_log2_self (Nat.two_pow_pos _)
      _ = 2 ^ 24 := by rw [← pow_add]; congr 1; omega
  omega

/-- Only the word 0 gives the pattern +0.0. -/
theorem toFloat_ne_zero : toFloat w ≠ 0#32 := by
  intro h
  have hexp := toFloat_exponent hw
  rw [h] at hexp
  simp at hexp

end NonZero

/-- Settles O29: the exponent field of a word other than 0 is 119 to 134. -/
theorem toFloatGivesNoSpecialValue : Obligations.ToFloatGivesNoSpecialValue := by
  unfold Obligations.ToFloatGivesNoSpecialValue
  intro w
  by_cases hw : w = 0#16
  · subst hw
    decide
  · have hlog := magnitude_log2_lt w
    rw [toFloat_exponent hw]
    exact ⟨by omega, fun hexp => absurd hexp (by omega), iff_of_false (toFloat_ne_zero hw) hw⟩

/-! ### The value of the pattern -/

theorem float32Value_zero : float32Value 0#32 = 0 := by simp [float32Value]

/-- R9: the value of a normal pattern. -/
theorem float32Value_normal {p : Float32Bits} (hp : (p.extractLsb' 23 8).toNat ≠ 0) :
    float32Value p = (if p.getLsbD 31 then -1 else 1) *
      (((2 ^ 23 + (p.extractLsb' 0 23).toNat : ℕ) : ℚ) * 2 ^ (p.extractLsb' 23 8).toNat / 2 ^ 150) := by
  unfold float32Value
  dsimp only
  rw [if_neg hp]
  split <;> push_cast <;> ring

/-- R172: the leading bit's shift and its exponent cancel. -/
theorem significand_mul_exponent {m e : ℕ} (he : e ≤ 23) :
    ((m * 2 ^ (23 - e) : ℕ) : ℚ) * 2 ^ (e + 119) / 2 ^ 150 = (m : ℚ) / 256 := by
  have hpow : (2 : ℚ) ^ (23 - e) * 2 ^ (e + 119) = 2 ^ 142 := by rw [← pow_add]; congr 1; omega
  push_cast
  rw [mul_assoc, hpow]
  ring

theorem sign_mul_magnitude (w : Word16) :
    (if w.msb then -1 else 1 : ℚ) * ((magnitude w).toNat : ℚ) = (w.toInt : ℚ) := by
  rw [magnitude_toNat, BitVec.msb_eq_toInt, Nat.cast_natAbs]
  by_cases hneg : w.toInt < 0
  · simp [hneg, abs_of_neg hneg]
  · simp [hneg, abs_of_nonneg (not_lt.1 hneg)]

theorem float32Value_toFloat (w : Word16) : float32Value (toFloat w) = (w.toInt : ℚ) / 256 := by
  by_cases hw : w = 0#16
  · subst hw
    rw [toFloat_zero, float32Value_zero]
    simp
  · have hlog := magnitude_log2_lt w
    have hexp := toFloat_exponent hw
    rw [float32Value_normal (by omega), toFloat_sign hw, toFloat_significand hw, hexp,
      significand_mul_exponent (by omega), ← mul_div_assoc, sign_mul_magnitude]

/-- Settles O28, by `float32Value_toFloat`. -/
theorem toFloatIsExact : Obligations.ToFloatIsExact := by
  unfold Obligations.ToFloatIsExact
  exact float32Value_toFloat

/-! ### Sixteenths of a degree -/

/-- A left shift multiplies the signed value where the product is a signed 16-bit number. -/
theorem shiftLeft_toInt {x : Word16} {k : ℕ} (hlow : -2 ^ 15 ≤ x.toInt * 2 ^ k) (hhigh : x.toInt * 2 ^ k < 2 ^ 15) :
    (x <<< k).toInt = x.toInt * 2 ^ k := by
  calc (x <<< k).toInt = ((x.toNat : ℤ) * 2 ^ k).bmod (2 ^ 16) := by
        rw [BitVec.toInt_shiftLeft, Nat.shiftLeft_eq, Nat.cast_mul, Nat.cast_pow, Nat.cast_ofNat]
    _ = (x.toInt * 2 ^ k).bmod (2 ^ 16) := by rw [BitVec.toInt_eq_toNat_bmod, Int.bmod_mul_bmod]
    _ = x.toInt * 2 ^ k := Int.bmod_eq_of_le hlow hhigh

/-- R168: scaling loses nothing in the 12-bit signed range. -/
theorem scale_toInt {raw : Word16} (hlow : -2048 ≤ raw.toInt) (hhigh : raw.toInt ≤ 2047) :
    (scale raw).toInt = raw.toInt * 16 :=
  shiftLeft_toInt (k := 4) (by omega) (by omega)

/-- R162: nor does the ModelS shift in the 9-bit signed range. -/
theorem rawS1_toInt {sp : Scratchpad} (hlow : -256 ≤ (raw0 sp).toInt) (hhigh : (raw0 sp).toInt ≤ 255) :
    (rawS1 sp).toInt = (raw0 sp).toInt * 8 :=
  shiftLeft_toInt (k := 3) (by omega) (by omega)

theorem float32Value_toFloat_scale {raw : Word16} (hlow : -2048 ≤ raw.toInt) (hhigh : raw.toInt ≤ 2047) :
    float32Value (toFloat (scale raw)) = (raw.toInt : ℚ) / 16 := by
  rw [float32Value_toFloat, scale_toInt hlow hhigh]
  push_cast
  ring

/-- Settles O30: the value of the scaled refined word, and of the plain ModelS word with its 3-bit shift. -/
theorem decoderGivesSixteenthsOfADegree : Obligations.DecoderGivesSixteenthsOfADegree := by
  unfold Obligations.DecoderGivesSixteenthsOfADegree
  refine fun sp => ⟨fun hlow hhigh => ?modelB, fun hlow hhigh => ?modelS, fun hper hlow hhigh => ?plain⟩
  case modelB => exact ⟨_, decodeTemp_modelB sp, float32Value_toFloat_scale hlow hhigh⟩
  case modelS => exact ⟨_, decodeTemp_modelS sp, float32Value_toFloat_scale hlow hhigh⟩
  case plain =>
    have hraw : (rawS2 sp).toInt = (raw0 sp).toInt * 8 := by rw [rawS2, if_neg hper, rawS1_toInt hlow hhigh]
    refine ⟨_, decodeTemp_modelS sp, ?_⟩
    rw [float32Value_toFloat_scale (by omega) (by omega), hraw]
    push_cast
    ring

end Sys2Proof.Machine
end

section
/-! PROOFS. READ and READC (R180 to R189). -/

namespace Sys2Proof.Machine

/-! ### How a fetch ends -/

theorem fetched_txns {s : State} {sp : Scratchpad} (ha : s.txnAnswer = .ok sp) :
    (s.fetched sp).txns = [.txn s.blk.sel busReadScratchpad [] 9 (some sp.bytes)] :=
  begin_readScratchpad_txns ha

/-- R181: a fetch that was answered `FAIL` is in the transaction list as such. -/
theorem begin_readScratchpad_txns_fail {s : State} (ha : s.txnAnswer = .fail) :
    s.begin.readScratchpad.txns = [.txn s.blk.sel busReadScratchpad [] 9 none] := by
  rw [← rdata_fail, ← ha]
  rfl

/-- R182: where the variant can be decoded, the fetched bytes give `RESULT` and `TEMP`. -/
theorem fetched_reading_supported {s : State} {sp : Scratchpad}
    (hv : s.blk.variant = .modelS ∨ s.blk.variant = .modelB) (ha : s.txnAnswer = .ok sp) :
    ∃ t f, (s.fetched sp).reading sp = .next t ∧ decodeTemp sp s.blk.variant = some f ∧
      t.blk = { s.blk with sp := some sp, result := f, temp := some f, status := .ok } ∧
      t.txns = [.txn s.blk.sel busReadScratchpad [] 9 (some sp.bytes)] := by
  obtain ⟨w, hf⟩ := decodeTemp_isSome sp _ hv
  exact ⟨(s.fetched sp).readDone (toFloat w), _, (reading_next _ _ _).2 ⟨_, hf, rfl⟩, hf, rfl, fetched_txns ha⟩

/-- R167, D30: where the variant cannot be decoded, the fetched bytes give nothing. -/
theorem fetched_reading_unsupported {s : State} (hv : s.blk.variant = .unsupported ∨ s.blk.variant = .reserved)
    (sp : Scratchpad) : (s.fetched sp).reading sp = .fault (.undecodableVariant s.blk.variant) := by
  have hnone : decodeTemp sp s.blk.variant = none := by
    obtain hv | hv := hv <;> rw [hv] <;> rfl
  exact reading_fault (s.fetched sp) sp hnone

/-- Settles O31: neither command gets a value from the decoder. -/
theorem decodingAnUnknownVariantFaults : Obligations.DecodingAnUnknownVariantFaults := by
  unfold Obligations.DecodingAnUnknownVariantFaults
  intro s sp hp ha hv
  have hfault := fetched_reading_unsupported hv sp
  refine ⟨(execRead_ok s sp hp ha).trans hfault, fun hc => ?_⟩
  exact (execReadc_ok s sp hp ha ((spOK_iff sp).2 hc)).trans hfault

/-! ### The outcomes -/

/-- Settles O32: the laws of `execRead`, one for each outcome. -/
theorem readInItsThreeOutcomes : Obligations.ReadInItsThreeOutcomes := by
  unfold Obligations.ReadInItsThreeOutcomes
  refine ⟨decode_encode (i := .read) rfl,
    fun s => ⟨fun hp => ?absent, fun hp ha => ?failed, fun sp hp hv ha => ?decoded⟩⟩
  case absent => exact ⟨_, execRead_absent s hp, rfl, rfl⟩
  case failed => exact ⟨_, execRead_fail s hp ha, rfl, begin_readScratchpad_txns_fail ha⟩
  case decoded =>
    obtain ⟨t, f, hread, hdecoded⟩ := fetched_reading_supported hv ha
    exact ⟨t, f, (execRead_ok s sp hp ha).trans hread, hdecoded⟩

theorem spOK_eq_false {sp : Scratchpad} (h : Config.crc8 sp.crcBytes ≠ sp.crc) : spOK sp = false :=
  Bool.eq_false_iff.2 fun hc => h ((spOK_iff sp).1 hc)

/-- Settles O33: the laws of `execReadc`, one for each outcome. -/
theorem readcInItsFourOutcomes : Obligations.ReadcInItsFourOutcomes := by
  unfold Obligations.ReadcInItsFourOutcomes
  refine ⟨decode_encode (i := .readc) rfl, fun s => ⟨fun hp => ?absent, fun hp ha => ?failed,
    fun sp hp ha hc => ?badCrc, fun sp hp hv ha hc => ?decoded⟩⟩
  case absent => exact ⟨_, execReadc_absent s hp, rfl, rfl⟩
  case failed => exact ⟨_, execReadc_fail s hp ha, rfl, begin_readScratchpad_txns_fail ha⟩
  case badCrc => exact ⟨_, execReadc_badCrc s sp hp ha (spOK_eq_false hc), rfl, fetched_txns ha⟩
  case decoded =>
    obtain ⟨t, f, hread, hdecoded⟩ := fetched_reading_supported hv ha
    exact ⟨t, f, (execReadc_ok s sp hp ha ((spOK_iff sp).2 hc)).trans hread, hdecoded⟩

/-! ### READ against READC -/

/-- R189: the two differ only on a fetch that fails the integrity check. -/
theorem execReadc_eq_execRead {s : State} (h : ∀ sp, s.txnAnswer = .ok sp → spOK sp = true) :
    execReadc s = execRead s := by
  cases hp : s.blk.present with
  | false => rw [execReadc_absent s hp, execRead_absent s hp]
  | true =>
    cases ha : s.txnAnswer with
    | fail => rw [execReadc_fail s hp ha, execRead_fail s hp ha]
    | ok sp => rw [execReadc_ok s sp hp ha (h sp ha), execRead_ok s sp hp ha]

/-- R188: a READC that fetches bytes with a wrong CRC ends in `INTEGRITY_ERROR`. -/
theorem execReadc_status_of_badCrc {s t : State} {sp : Scratchpad} (h : execReadc s = .next t)
    (hp : s.blk.present = true) (ha : s.txnAnswer = .ok sp) (hc : spOK sp = false) :
    t.blk.status = .integrityError := by
  cases (execReadc_badCrc s sp hp ha hc).symm.trans h
  rfl

/-- Settles O34, from `execReadc_eq_execRead` where the check is passed or not reached. -/
theorem readAndReadcDifferOnlyInTheCheck : Obligations.ReadAndReadcDifferOnlyInTheCheck := by
  unfold Obligations.ReadAndReadcDifferOnlyInTheCheck
  refine fun s => ⟨fun h => execReadc_eq_execRead fun sp ha => (spOK_iff sp).2 (h sp ha), fun t h hst => ?_⟩
  cases hp : s.blk.present with
  | false => exact (execRead_absent s hp).trans ((execReadc_absent s hp).symm.trans h)
  | true =>
    have hcheck : ∀ sp, s.txnAnswer = .ok sp → spOK sp = true := fun sp ha =>
      Bool.of_not_eq_false fun hc => hst (execReadc_status_of_badCrc h hp ha hc)
    exact (execReadc_eq_execRead hcheck).symm.trans h

/-! ### Two READs in a row -/

theorem scratchpad_eq_of_bytes {p q : Scratchpad} (h : p.bytes = q.bytes) : p = q := by
  cases p
  cases q
  simpa [Scratchpad.bytes, Scratchpad.crcBytes] using h

/-- R182: what a READ that ends OK has fetched, and what it has made of it. -/
theorem exec_read_ok {s t : State} (h : exec .read s = .next t) (hst : t.blk.status = .ok) :
    ∃ sp f, decodeTemp sp s.blk.variant = some f ∧
      t.blk = { s.blk with sp := some sp, result := f, temp := some f, status := .ok } ∧
      t.txns = [.txn s.blk.sel busReadScratchpad [] 9 (some sp.bytes)] := by
  obtain ⟨-, rfl⟩ | ⟨-, -, rfl⟩ | ⟨-, sp, f, ha, hf, rfl⟩ := execRead_next s t h
  · cases hst
  · cases hst
  · exact ⟨sp, f, hf, rfl, fetched_txns ha⟩

/-- Settles O35: a stable device answers both fetches with the same bytes. -/
theorem repeatedReadGivesTheSameTemperature : Obligations.RepeatedReadGivesTheSameTemperature := by
  unfold Obligations.RepeatedReadGivesTheSameTemperature
  intro s t u hread hst hread' hst' hstable
  obtain ⟨sp, f, hf, hblk, htxns⟩ := exec_read_ok hread hst
  obtain ⟨sp', f', hf', hblk', htxns'⟩ := exec_read_ok hread' hst'
  rw [htxns, htxns'] at hstable
  obtain ⟨-, -, hafter⟩ := (deviceStable_read _ _ _ _ _ _ _).1 hstable
  obtain ⟨hsame, -, -⟩ := (deviceStable_read _ _ _ _ _ _ _).1 hafter
  obtain rfl : sp' = sp := scratchpad_eq_of_bytes (hsame _ rfl)
  have hvariant : t.blk.variant = s.blk.variant := by rw [hblk]
  rw [hvariant] at hf'
  cases hf.symm.trans hf'
  rw [hblk', hblk]
  exact ⟨rfl, rfl, rfl⟩

end Sys2Proof.Machine
end

section
/-! PROOFS. No command stops on an error: an illegal word is a status (R204, R205), and from a block that meets the invariants
of R31 every command ends in a next state (R200). -/

namespace Sys2Proof.Machine

/-- Settles O8: the effect of an illegal word is that of R204, by the settled reading of R73. -/
theorem illegalWordWritesOnlyStatus : Obligations.IllegalWordWritesOnlyStatus := by
  unfold Obligations.IllegalWordWritesOnlyStatus
  intro s w hw
  obtain ⟨-, heffect⟩ := (rejectedWordsAreTheIllegalOnes w).1 hw
  exact ⟨s.illegalWord, heffect s, rfl, rfl, rfl, rfl⟩

/-! ### The commands that use the transport end -/

theorem execSetres_ends (n : Int) (s : State) : ∃ t, execSetres n s = .next t := by
  cases hp : s.blk.present with
  | false => exact ⟨_, execSetres_absent n s hp⟩
  | true =>
    cases ha : s.txnAnswer with
    | fail => exact ⟨_, execSetres_fail n s hp ha⟩
    | ok sp => exact ⟨_, execSetres_ok n s sp hp ha⟩

theorem execConvert_ends (s : State) : ∃ t, execConvert s = .next t := by
  cases hp : s.blk.present with
  | false => exact ⟨_, execConvert_absent s hp⟩
  | true =>
    cases ha : s.txnAnswer with
    | fail => exact ⟨_, execConvert_fail s hp ha⟩
    | ok x => exact ⟨_, execConvert_ok s x hp ha⟩

/-- By (I-a), a present handle has a variant that the decoder takes. -/
theorem fetched_reading_ends {s : State} {sp : Scratchpad} (hinv : s.blk.Inv) (hp : s.blk.present = true)
    (ha : s.txnAnswer = .ok sp) : ∃ t, (s.fetched sp).reading sp = .next t := by
  obtain ⟨t, -, hread, -⟩ := fetched_reading_supported (hinv.present_variant hp) ha
  exact ⟨t, hread⟩

theorem execRead_ends {s : State} (hinv : s.blk.Inv) : ∃ t, execRead s = .next t := by
  cases hp : s.blk.present with
  | false => exact ⟨_, execRead_absent s hp⟩
  | true =>
    cases ha : s.txnAnswer with
    | fail => exact ⟨_, execRead_fail s hp ha⟩
    | ok sp => exact execRead_ok s sp hp ha ▸ fetched_reading_ends hinv hp ha

theorem execReadc_ends {s : State} (hinv : s.blk.Inv) : ∃ t, execReadc s = .next t := by
  cases hp : s.blk.present with
  | false => exact ⟨_, execReadc_absent s hp⟩
  | true =>
    cases ha : s.txnAnswer with
    | fail => exact ⟨_, execReadc_fail s hp ha⟩
    | ok sp =>
      cases hc : spOK sp with
      | false => exact ⟨_, execReadc_badCrc s sp hp ha hc⟩
      | true => exact execReadc_ok s sp hp ha hc ▸ fetched_reading_ends hinv hp ha

/-- Settles O37: the reads alone need the invariants, for the decoder. -/
theorem everyCommandEndsWithAStatus : Obligations.EveryCommandEndsWithAStatus := by
  unfold Obligations.EveryCommandEndsWithAStatus
  intro i s hi hinv
  cases i with
  | identifyFirst | identifyNext | assertS | assertB | isPresent => exact ⟨_, rfl⟩
  | setres n => exact execSetres_ends n s
  | convert => exact execConvert_ends s
  | read => exact execRead_ends hinv
  | readc => exact execReadc_ends hinv
  | _ => cases hi

end Sys2Proof.Machine
end

section
/-! PROOFS. What selecting a handle and running an instruction leave alone (R212). -/

namespace Sys2Proof.Machine

/-! ### Selecting a handle -/

theorem select_of_lt {s : State} {k : Nat} (h : k < s.handles.length) :
    s.select k = .next { s with before := s.handles.take k, blk := s.handles[k], after := s.handles.drop (k + 1) } := by
  simp [State.select, h]

theorem select_of_le {s : State} {k : Nat} (h : s.handles.length ≤ k) : s.select k = .refused (.noSuchHandle k) := by
  simp [State.select, h]

/-- Settles O10: the handles before `k`, handle `k` and those after it are all the handles. -/
theorem selectingKeepsEveryHandle : Obligations.SelectingKeepsEveryHandle := by
  unfold Obligations.SelectingKeepsEveryHandle
  refine fun s k => ⟨fun h => ?_, select_of_le⟩
  obtain ⟨hhandles, -⟩ := select_next s _ k (select_of_lt h)
  exact ⟨_, select_of_lt h, hhandles, rfl, rfl, rfl⟩

/-! ### The host's side -/

/-- `t` holds the host's pending actions, what it read last and the code port's output as `s` does. -/
structure SameHostSide (s t : State) : Prop where
  inputs  : t.inputs = s.inputs
  seen    : t.seen = s.seen
  unitOut : t.unitOut = s.unitOut

theorem sameHostSide_identifyAnswer (s : State) (a : Option Address) : SameHostSide s (s.identifyAnswer a) := by
  unfold State.identifyAnswer
  split
  · exact ⟨rfl, rfl, rfl⟩
  · split
    · split <;> exact ⟨rfl, rfl, rfl⟩
    · exact ⟨rfl, rfl, rfl⟩

theorem sameHostSide_identify (s : State) (first : Bool) : SameHostSide s (s.identify first) := by
  unfold State.identify
  split
  · exact ⟨rfl, rfl, rfl⟩
  · obtain ⟨hinputs, hseen, hunitOut⟩ := sameHostSide_identifyAnswer (s.begin.busSearch first) s.searchAnswer
    exact ⟨hinputs, hseen, hunitOut⟩

theorem sameHostSide_assertVariant (s : State) (v : Variant) : SameHostSide s (s.assertVariant v) := by
  unfold State.assertVariant
  split <;> exact ⟨rfl, rfl, rfl⟩

theorem sameHostSide_writeBack (s : State) (sp : Scratchpad) (r : BitVec 4) : SameHostSide s (s.writeBack sp r) := by
  unfold State.writeBack
  dsimp only
  split <;> exact ⟨rfl, rfl, rfl⟩

theorem execSetres_sameHostSide {n : Int} {s t : State} (h : execSetres n s = .next t) : SameHostSide s t := by
  obtain ⟨-, rfl⟩ | ⟨-, -, rfl⟩ | ⟨-, sp, -, rfl⟩ := execSetres_next n s t h
  · exact ⟨rfl, rfl, rfl⟩
  · exact ⟨rfl, rfl, rfl⟩
  · obtain ⟨hinputs, hseen, hunitOut⟩ := sameHostSide_writeBack s.begin.readScratchpad sp (clamp n s.blk.variant)
    exact ⟨hinputs, hseen, hunitOut⟩

/-- Commands and lone bus bytes have nothing to do with the host's side. -/
theorem exec_sameHostSide {i : Instr} {s t : State} (hi : IssuesRequests i) (h : exec i s = .next t) :
    SameHostSide s t := by
  cases i with
  | identifyFirst | identifyNext => cases h; exact sameHostSide_identify s _
  | assertS | assertB => cases h; exact sameHostSide_assertVariant s _
  | setres n => exact execSetres_sameHostSide h
  | convert => obtain ⟨-, rfl⟩ | ⟨-, -, rfl⟩ | ⟨-, -, rfl⟩ := execConvert_next s t h <;> exact ⟨rfl, rfl, rfl⟩
  | read => obtain ⟨-, rfl⟩ | ⟨-, -, rfl⟩ | ⟨-, _, _, -, -, rfl⟩ := execRead_next s t h <;> exact ⟨rfl, rfl, rfl⟩
  | readc =>
    obtain ⟨-, rfl⟩ | ⟨-, -, rfl⟩ | ⟨-, _, -, -, rfl⟩ | ⟨-, _, _, -, -, -, rfl⟩ := execReadc_next s t h <;>
      exact ⟨rfl, rfl, rfl⟩
  | busRead => obtain ⟨-, rfl⟩ | ⟨_, -, rfl⟩ := execBusRead_next s t h <;> exact ⟨rfl, rfl, rfl⟩
  | isPresent | busConvert | busWrite => cases h; exact ⟨rfl, rfl, rfl⟩
  | family10 | family28 | family22 | cfgRes9 | cfgRes10 | cfgRes11 | cfgRes12 =>
    simp [IssuesRequests, Instr.isCommand] at hi

/-- A family or configuration code drives a combinational unit and nothing else. -/
theorem exec_unitCode {i : Instr} {s t : State} (hi : ¬ IssuesRequests i) (h : exec i s = .next t) :
    ∃ b, t = s.driveMux b ∨ t = s.driveConfig b := by
  cases i with
  | family10 | family28 | family22 => cases h; exact ⟨_, .inl rfl⟩
  | cfgRes9 | cfgRes10 | cfgRes11 | cfgRes12 => cases h; exact ⟨_, .inr rfl⟩
  | _ => simp [IssuesRequests, Instr.isCommand] at hi

/-- Settles O43: the frame of the other handles, and that of the host's side, where a unit code drives the output alone. -/
theorem instructionsLeaveOtherHandlesAlone : Obligations.InstructionsLeaveOtherHandlesAlone := by
  unfold Obligations.InstructionsLeaveOtherHandlesAlone
  intro i s t h
  obtain ⟨hbefore, hafter⟩ := exec_others h
  by_cases hi : IssuesRequests i
  · obtain ⟨hinputs, hseen, hunitOut⟩ := exec_sameHostSide hi h
    exact ⟨hbefore, hafter, hinputs, hseen, fun _ => hunitOut⟩
  · obtain ⟨b, rfl | rfl⟩ := exec_unitCode hi h <;> exact ⟨hbefore, hafter, rfl, rfl, fun hr => absurd hr hi⟩

end Sys2Proof.Machine
end

section
/-! PROOFS. The latencies of R228 and the host's wait after CONVERT (D26). -/

namespace Sys2Proof.Machine

theorem latency_res12 : latency 12#4 = 75000 := rfl

theorem Block.hostWait_of_res {b : Block} {r : BitVec 4} (h : b.res = some r) : b.hostWait = latency r := by
  simp only [Block.hostWait, h]

theorem Block.hostWait_of_res_none {b : Block} (h : b.res = none) : b.hostWait = latency 12#4 := by
  simp only [Block.hostWait, h]

theorem Block.resValid_eq_false_iff (b : Block) : b.resValid = false ↔ b.res = none := by
  simp [Block.resValid]

/-- Settles O23: the four figures by evaluation, the wait by whether `RES` holds a value. -/
theorem hostWaitsTheLatencyOfRes : Obligations.HostWaitsTheLatencyOfRes := by
  unfold Obligations.HostWaitsTheLatencyOfRes
  refine ⟨rfl, rfl, rfl, latency_res12, fun b => ⟨fun r hres => ?value, fun hvalid => ?noValue⟩⟩
  case value => exact Block.hostWait_of_res hres
  case noValue =>
    have hres : b.res = none := b.resValid_eq_false_iff.mp hvalid
    exact (Block.hostWait_of_res_none hres).trans latency_res12

end Sys2Proof.Machine
end
